-- ==== Sys2Proof/Word.lean ====
section
/-! DEFINITION. The word types of the KNF-310's fields and the numbers of its objects (00_scope.md, Numbering). -/

namespace Sys2Proof

/-- One byte of the serial line or of an entry layout. -/
abbrev Byte := BitVec 8

/-- A 16-bit field: a check code, a table entry, a pressure. -/
abbrev W16 := BitVec 16

/-- A 32-bit field: a time, a tag, an index, a count, a flow. -/
abbrev W32 := BitVec 32

/-- Zones are numbered 0–47. -/
abbrev ZoneId := Fin 48

/-- Meter slots are numbered 0–127. -/
abbrev SlotId := Fin 128

/-- Pulse channels are numbered 0–15. -/
abbrev ChanId := Fin 16

end Sys2Proof
end

