-- ==== Sys2Proof/Machine/Bytes.lean ====
section
/-! DEFINITION. Byte order (high byte first, R176), the field encodings of R184, and the CRC of R176. -/

namespace Sys2Proof.Machine

open Sys2Proof

/-- A 16-bit value, high byte first (R176). -/
def be16 (x : W16) : List Byte := [x.extractLsb' 8 8, x.extractLsb' 0 8]

/-- A 32-bit value, high byte first (R176). -/
def be32 (x : W32) : List Byte :=
  [x.extractLsb' 24 8, x.extractLsb' 16 8, x.extractLsb' 8 8, x.extractLsb' 0 8]

/-- A 64-bit value, high byte first (R176). -/
def be64 (x : BitVec 64) : List Byte :=
  be32 (x.extractLsb' 32 32) ++ be32 (x.extractLsb' 0 32)

/-- Two bytes read high byte first. -/
def word16 (a b : Byte) : W16 := a ++ b

/-- Four bytes read high byte first. -/
def word32 (a b c d : Byte) : W32 := (a ++ b) ++ (c ++ d)

/-- An unsigned 1-byte field (R184). -/
def enc8 (n : Nat) : List Byte := [BitVec.ofNat 8 n]

/-- An unsigned 2-byte field (R184). -/
def enc16 (n : Nat) : List Byte := be16 (BitVec.ofNat 16 n)

/-- An unsigned 4-byte field (R184). -/
def enc32 (n : Nat) : List Byte := be32 (BitVec.ofNat 32 n)

/-- A signed two's complement 4-byte field (R184). -/
def encS32 (x : Int) : List Byte := be32 (BitVec.ofInt 32 x)

/-- A signed two's complement 8-byte field: a bin's net volume (R184). -/
def encS64 (x : Int) : List Byte := be64 (BitVec.ofInt 64 x)

/-- A yes-or-no field (R184). -/
def encBool (b : Bool) : List Byte := [if b then 1 else 0]

/-- A zone, slot or channel number, "none" as 0xFF (R184). -/
def encOrNone : Option Nat → List Byte
  | none => [0xFF]
  | some n => enc8 n

/-- An optional field: a presence byte, then the field, zero-filled to its `width` when absent (R184). -/
def encOption (width : Nat) : Option (List Byte) → List Byte
  | none => 0 :: List.replicate width 0
  | some bs => 1 :: bs

/-- A list: a count byte, then the entries (R184). -/
def encList (entries : List (List Byte)) : List Byte :=
  enc8 entries.length ++ entries.flatten

/-- One bit of the division by x^16 + x^12 + x^5 + 1 (R176). -/
def crcBit (c : W16) : W16 :=
  if c.msb then (c <<< 1) ^^^ 0x1021 else c <<< 1

/-- One byte of the division, most significant bit first (R176). -/
def crcByte (c : W16) (b : Byte) : W16 :=
  crcBit (crcBit (crcBit (crcBit (crcBit (crcBit (crcBit (crcBit (c ^^^ word16 b 0))))))))

/-- The CRC of R176: the register starts at 0xFFFF; the result is neither reflected nor inverted. -/
def crc16 (bs : List Byte) : W16 := bs.foldl crcByte 0xFFFF

end Sys2Proof.Machine
end

