-- ==== Sys2Proof/Syntax.lean ====
section
/-! DEFINITION. The commands of the KNF-310: one constructor for each row of spec/opcode_table.json, with its operands.
A request row carries the tag byte of its frame and the fields of its body as the line carries them (R176, R183), so that
every value a frame can hold, in range or not, is an operand. -/

namespace Sys2Proof

/-- What the line delivers on RXD: a byte, or a byte whose stop bit is low (R175). -/
inductive RxEvent
  | byte (b : Byte)
  | framingError
deriving DecidableEq, Repr

/-- The parts of one boundary event whose order among each other the manual leaves open (R3, R43, R153): one channel's
posting, the stage's application of a due commit, the analyser's grid marks, and one verification of the scrub. -/
inductive BoundaryPart
  | channel (c : ChanId)
  | stage
  | analyser
  | verify
deriving DecidableEq, Repr

/-- How much of a second a SECOND_TICK stands for (log 30), where the tick raises a boundary event: the tick with all the
event's work; the tick with the work named, the rest being left for later; more of the work of the same second; or the
rest of it. -/
inductive SecondShare
  | whole
  | start
  | more
  | rest
deriving DecidableEq, Repr

/-- The parts of an item's end whose order among each other the manual leaves open (R55, R56): the early close tests,
the application of a due commit, and a METER-RELEASE that waited for the item. -/
inductive ItemEndPart
  | earlyClose
  | commit
  | release
deriving DecidableEq, Repr

/-- The 27 setting bytes of a zone configuration entry, from Lz onwards (R185). -/
structure ZoneSettings where
  lz : W32
  pref : W16
  correction : Byte
  tfloor : W32
  multiplier : Byte
  tburst : W32
  balance : W32
  kNights : Byte
  mNights : Byte
  rClear : Byte
  lLatch : Byte
  nSettle : Byte
  shift : Byte
  holdLine : Byte
deriving DecidableEq, Repr

/-- The 20 bytes of a meter binding entry (R185). -/
structure MeterBinding where
  source : Byte
  channel : Byte
  tag : W32
  volume : W32
  digits : Byte
  qmax : W32
  count : Byte
  zone1 : Byte
  dir1 : Byte
  zone2 : Byte
  dir2 : Byte
deriving DecidableEq, Repr

/-- The 14 body bytes of SET-GRID (R183). -/
structure GridFields where
  interval : Byte
  windowStart : W32
  windowLength : W16
  closeDelay : W16
  spanLimit : W32
  trimStep : Byte
deriving DecidableEq, Repr

/-- One reading: a time and an index (R183). -/
structure Pair where
  time : W32
  index : W32
deriving DecidableEq, Repr

/-- A request frame as the input queue holds it: the tag, the kind code and the body (R176). -/
structure Frame where
  tag : Byte
  kind : Byte
  body : List Byte
deriving DecidableEq, Repr

/-- One constructor for each row of spec/opcode_table.json.
In a request row `ft` is the frame's tag byte, which the reply copies (R176). -/
inductive Instr
  -- time base and pins
  | secondTick (order : List BoundaryPart) (share : SecondShare)
  | standstillEnd
  | pinChange (ch : ChanId) (high : Bool) (sinceEdgeMicros : Nat)
  | statusLevelChange (ch : ChanId)
  -- the link
  | byteReceived (e : RxEvent)
  | frameGapTimeout
  | replySent
  | unknownKind (ft kind : Byte) (body : List Byte)
  -- power and reset
  | powerOn (rate1 rate0 : Bool)
  | pinReset (rate1 rate0 : Bool)
  -- modes
  | statusGet (ft : Byte)
  | enterSetup (ft : Byte)
  | leavingPhaseEnd
  | leaveSetup (ft : Byte)
  | restart (ft : Byte)
  | restartClear
  -- time settings
  | setClock (ft : Byte) (time : W32)
  | setGrid (ft : Byte) (grid : GridFields)
  | timeMark (ft : Byte) (reference : W32)
  -- zones
  | setZone (ft zone option : Byte) (settings : ZoneSettings)
  | setZoneUnconfigure (ft zone : Byte) (settings : ZoneSettings)
  | zoneGet (ft zone : Byte)
  | nightGetSummary (ft zone part firstBin : Byte)
  | nightGetVolumes (ft zone firstBin : Byte)
  | nightGetPressure (ft zone firstBin : Byte)
  | historyGet (ft zone : Byte)
  | holdZoneSet (ft zone action : Byte)
  | holdZoneRelease (ft zone : Byte)
  | clearZoneRelearn (ft zone option : Byte)
  | clearZoneRebase (ft zone : Byte)
  | clearZoneKeep (ft zone : Byte)
  | baselineGet (ft zone : Byte)
  | baselinePut (ft zone : Byte) (baseline spread : W32) (settling : Byte)
  -- stage and meters
  | stageMeter (ft slot : Byte) (binding : MeterBinding)
  | commitStage (ft : Byte)
  | discardStage (ft : Byte)
  | meterGet (ft slot : Byte)
  | meterRelease (ft slot : Byte)
  -- channels
  | setChannel (ft ch mode divider gateLine timing restartMode : Byte)
  | channelGet (ft ch : Byte)
  | gateChannelSet (ft ch action : Byte)
  | gateChannelRelease (ft ch : Byte)
  -- intake
  | reading (ft slot : Byte) (tag : W32) (pair : Pair)
  | readingBatch (ft slot : Byte) (tag : W32) (pairs : List Pair)
  | readingPair
  | captureRecord (ch : ChanId)
  | resumeRecord (ch : ChanId)
  | intakeItemEnd (order : List ItemEndPart)
  -- pressure
  | pressure (ft zone : Byte) (time : W32) (value : W16)
  | setPressureTable (ft : Byte) (entries : Vector W16 17)
  | pressureTableQuery (ft : Byte)
  -- the night analyser
  | analyserTakeZone (pick : Option ZoneId)
  | nightAnalysisEnd
  -- findings and attention
  | findingsTake (ft n : Byte)
  | attnGet (ft : Byte)
  | attnClear (ft flags : Byte)
  | attnEnable (ft mask : Byte)
  -- entry checker
  | entryRaw (ft kind number : Byte)
  | checkPass (ft : Byte)
  | checkPassVerify
  -- the RESET pin
  | resetPinLow
deriving DecidableEq, Repr

end Sys2Proof
end

