-- ==== Sys2Proof/Machine/Entries.lean ====
section
/-! DEFINITION. The two protected entries and their canonical layouts (R185), the check codes over them (R35),
and the cleared entries (R20, R185). -/

namespace Sys2Proof.Machine

open Sys2Proof

/-- A zone configuration entry: the configured byte and the 27 setting bytes (2.3, R185). -/
structure ZoneEntry where
  configured : Byte
  settings : ZoneSettings
deriving DecidableEq, Repr

/-- The 27 setting bytes from Lz onwards, in the canonical order (R185). -/
def settingsBytes (x : ZoneSettings) : List Byte :=
  be32 x.lz ++ be16 x.pref ++ [x.correction] ++ be32 x.tfloor ++ [x.multiplier] ++ be32 x.tburst ++
    be32 x.balance ++
    [x.kNights, x.mNights, x.rClear, x.lLatch, x.nSettle, x.shift, x.holdLine]

/-- The 28 bytes of a zone configuration entry (R185). -/
def zoneEntryBytes (e : ZoneEntry) : List Byte := e.configured :: settingsBytes e.settings

/-- The 20 bytes of a meter binding entry (R185). -/
def bindingBytes (b : MeterBinding) : List Byte :=
  [b.source, b.channel] ++ be32 b.tag ++ be32 b.volume ++ [b.digits] ++ be32 b.qmax ++
    [b.count, b.zone1, b.dir1, b.zone2, b.dir2]

/-- The check code of a zone entry: the CRC of R176 over its canonical bytes (R35, R185). -/
def zoneCode (e : ZoneEntry) : W16 := crc16 (zoneEntryBytes e)

/-- The check code of a meter entry (R35, R185). -/
def bindingCode (b : MeterBinding) : W16 := crc16 (bindingBytes b)

/-- The cleared settings: all 0 except the hold line, which is 0xFF (R20, R185). -/
def clearedSettings : ZoneSettings :=
  { lz := 0, pref := 0, correction := 0, tfloor := 0, multiplier := 0, tburst := 0, balance := 0,
    kNights := 0, mNights := 0, rClear := 0, lLatch := 0, nSettle := 0, shift := 0, holdLine := 0xFF }

/-- The cleared zone entry (R20, R185). -/
def clearedZoneEntry : ZoneEntry := { configured := 0, settings := clearedSettings }

/-- The cleared meter entry: all 0 (R185). -/
def clearedBinding : MeterBinding :=
  { source := 0, channel := 0, tag := 0, volume := 0, digits := 0, qmax := 0, count := 0,
    zone1 := 0, dir1 := 0, zone2 := 0, dir2 := 0 }

end Sys2Proof.Machine
end

