-- ==== Sys2Proof/WellFormed.lean ====
section
/-! DEFINITION. Which commands a frame can spell under the row they stand in. Rows that share one kind code are told
apart by an option, action or part byte; a byte that is none of the row's values belongs to the first row of its kind,
which refuses it RANGE (log 11). Event rows carry no field that could be ill formed. -/

namespace Sys2Proof

/-- The request kind codes of the catalogue (12.5). -/
def catalogue : List Byte :=
  [0x01, 0x02, 0x03, 0x04, 0x05, 0x06, 0x07,
   0x10, 0x11, 0x12, 0x13, 0x14, 0x15, 0x16, 0x17,
   0x20, 0x21, 0x22, 0x23, 0x24,
   0x30, 0x31, 0x32,
   0x40, 0x41, 0x42, 0x43,
   0x50, 0x51, 0x52, 0x53,
   0x60, 0x61]

/-- The longest request body, in bytes (R176: L is at most 240, of which two are the tag and the kind). -/
def maxBody : Nat := 238

/-- The most pairs a READING-BATCH body can hold: 6 + 8 × 29 = 238 bytes (R176, 12.5). -/
def maxPairs : Nat := 29

/-- The check of a command's operands. -/
def Instr.wellFormed : Instr → Bool
  | .secondTick _ _ => true
  | .standstillEnd => true
  | .pinChange _ _ _ => true
  | .statusLevelChange _ => true
  | .byteReceived _ => true
  | .frameGapTimeout => true
  | .replySent => true
  | .unknownKind _ kind body => !catalogue.contains kind && body.length ≤ maxBody
  | .powerOn _ _ => true
  | .pinReset _ _ => true
  | .statusGet _ => true
  | .enterSetup _ => true
  | .leavingPhaseEnd => true
  | .leaveSetup _ => true
  | .restart _ => true
  | .restartClear => true
  | .setClock _ _ => true
  | .setGrid _ _ => true
  | .timeMark _ _ => true
  | .setZone _ _ option _ => option != 1
  | .setZoneUnconfigure _ _ _ => true
  | .zoneGet _ _ => true
  | .nightGetSummary _ _ part _ => part != 1 && part != 2
  | .nightGetVolumes _ _ _ => true
  | .nightGetPressure _ _ _ => true
  | .historyGet _ _ => true
  | .holdZoneSet _ _ action => action != 1
  | .holdZoneRelease _ _ => true
  | .clearZoneRelearn _ _ option => option != 1 && option != 2
  | .clearZoneRebase _ _ => true
  | .clearZoneKeep _ _ => true
  | .baselineGet _ _ => true
  | .baselinePut _ _ _ _ _ => true
  | .stageMeter _ _ _ => true
  | .commitStage _ => true
  | .discardStage _ => true
  | .meterGet _ _ => true
  | .meterRelease _ _ => true
  | .setChannel _ _ _ _ _ _ _ => true
  | .channelGet _ _ => true
  | .gateChannelSet _ _ action => action != 1
  | .gateChannelRelease _ _ => true
  | .reading _ _ _ _ => true
  | .readingBatch _ _ _ pairs => pairs.length ≤ maxPairs
  | .readingPair => true
  | .captureRecord _ => true
  | .resumeRecord _ => true
  | .intakeItemEnd _ => true
  | .pressure _ _ _ _ => true
  | .setPressureTable _ _ => true
  | .pressureTableQuery _ => true
  | .analyserTakeZone _ => true
  | .nightAnalysisEnd => true
  | .findingsTake _ _ => true
  | .attnGet _ => true
  | .attnClear _ _ => true
  | .attnEnable _ _ => true
  | .entryRaw _ _ _ => true
  | .checkPass _ => true
  | .checkPassVerify => true
  | .resetPinLow => true

end Sys2Proof
end

