-- ==== Sys2Proof/Decode.lean ====
section
/-! DEFINITION. Decoding. The opcode table gives no row any bits, so `decodeTableWord` reads none. The request frames of
the line have layouts of their own (R179, R183, R185): `encodeRequest` writes a request command's frame and
`decodeRequest` reads a frame back, answering none where the body length does not match the kind (BAD-LENGTH). -/

namespace Sys2Proof

open Machine

/-- The table gives no row any bits: no word spells a command. -/
def decodeTableWord (_nbits _w : Nat) : Option Instr := none

/-- One pair of a READING or READING-BATCH body: time, then index (R183). -/
def pairBytes (p : Pair) : List Byte := be32 p.time ++ be32 p.index

/-- The pairs of a READING-BATCH body, eight bytes each; none when bytes are left over (R183). -/
def decodePairs : List Byte → Option (List Pair)
  | [] => some []
  | a :: b :: c :: d :: e :: f :: g :: h :: rest =>
    (decodePairs rest).map (⟨word32 a b c d, word32 e f g h⟩ :: ·)
  | _ => none

/-- 16-bit values, high byte first; an odd last byte is left out (R183, SET-PRESSURE-TABLE). -/
def decodeWords : List Byte → List W16
  | a :: b :: rest => word16 a b :: decodeWords rest
  | _ => []

/-- The 27 setting bytes of SET-ZONE (R183, R185). -/
def decodeSettings : List Byte → Option ZoneSettings
  | [l0, l1, l2, l3, p0, p1, co, f0, f1, f2, f3, k, t0, t1, t2, t3, b0, b1, b2, b3, kn, mn, rc, ll, ns, sh, hl] =>
    some { lz := word32 l0 l1 l2 l3, pref := word16 p0 p1, correction := co, tfloor := word32 f0 f1 f2 f3,
           multiplier := k, tburst := word32 t0 t1 t2 t3, balance := word32 b0 b1 b2 b3, kNights := kn,
           mNights := mn, rClear := rc, lLatch := ll, nSettle := ns, shift := sh, holdLine := hl }
  | _ => none

/-- The 20 bytes of a meter entry in STAGE-METER (R183, R185). -/
def decodeBinding : List Byte → Option MeterBinding
  | [so, ch, t0, t1, t2, t3, u0, u1, u2, u3, d, q0, q1, q2, q3, n, z1, d1, z2, d2] =>
    some { source := so, channel := ch, tag := word32 t0 t1 t2 t3, volume := word32 u0 u1 u2 u3, digits := d,
           qmax := word32 q0 q1 q2 q3, count := n, zone1 := z1, dir1 := d1, zone2 := z2, dir2 := d2 }
  | _ => none

/-- SET-ZONE and its unconfigure option share kind 0x10 (R183). -/
def decodeSetZone (ft zone option : Byte) (x : ZoneSettings) : Instr :=
  if option = 1 then .setZoneUnconfigure ft zone x else .setZone ft zone option x

/-- The three parts of NIGHT-GET share kind 0x12 (R183). -/
def decodeNightGet (ft zone part firstBin : Byte) : Instr :=
  if part = 1 then .nightGetVolumes ft zone firstBin
  else if part = 2 then .nightGetPressure ft zone firstBin
  else .nightGetSummary ft zone part firstBin

/-- The actions of HOLD-ZONE share kind 0x14 (R183). -/
def decodeHoldZone (ft zone action : Byte) : Instr :=
  if action = 1 then .holdZoneRelease ft zone else .holdZoneSet ft zone action

/-- The options of CLEAR-ZONE share kind 0x15 (R183). -/
def decodeClearZone (ft zone option : Byte) : Instr :=
  if option = 1 then .clearZoneRebase ft zone
  else if option = 2 then .clearZoneKeep ft zone
  else .clearZoneRelearn ft zone option

/-- The actions of GATE-CHANNEL share kind 0x32 (R183). -/
def decodeGateChannel (ft ch action : Byte) : Instr :=
  if action = 1 then .gateChannelRelease ft ch else .gateChannelSet ft ch action

/-- READING-BATCH: slot, tag, p and p pairs; the length is 6 + 8 × p (R183, 12.5). -/
def decodeBatch (ft : Byte) : List Byte → Option Instr
  | slot :: a :: b :: c :: d :: p :: rest =>
    if rest.length = 8 * p.toNat then (decodePairs rest).map (.readingBatch ft slot (word32 a b c d)) else none
  | _ => none

/-- SET-PRESSURE-TABLE: no entries, or 17 of two bytes each (R183, R87). -/
def decodeTable (ft : Byte) (body : List Byte) : Option Instr :=
  if body = [] then some (.pressureTableQuery ft)
  else if body.length = 34 then
    if h : (decodeWords body).toArray.size = 17 then some (.setPressureTable ft ⟨(decodeWords body).toArray, h⟩) else none
  else none

/-- What the link controller reads in a frame (R179): none when the kind is in the catalogue and the body length does
not match it; `unknownKind` when the kind is not in the catalogue; otherwise the request, its fields as R183 lays them
out. -/
def decodeRequest (f : Frame) : Option Instr :=
  if f.kind = 0x01 then match f.body with | [] => some (.statusGet f.tag) | _ => none
  else if f.kind = 0x02 then match f.body with | [] => some (.enterSetup f.tag) | _ => none
  else if f.kind = 0x03 then match f.body with | [] => some (.leaveSetup f.tag) | _ => none
  else if f.kind = 0x04 then match f.body with | [] => some (.restart f.tag) | _ => none
  else if f.kind = 0x05 then match f.body with | [a, b, c, d] => some (.setClock f.tag (word32 a b c d)) | _ => none
  else if f.kind = 0x06 then
    match f.body with
    | [i, a, b, c, d, w0, w1, d0, d1, s0, s1, s2, s3, ts] =>
      some (.setGrid f.tag { interval := i, windowStart := word32 a b c d, windowLength := word16 w0 w1,
                             closeDelay := word16 d0 d1, spanLimit := word32 s0 s1 s2 s3, trimStep := ts })
    | _ => none
  else if f.kind = 0x07 then match f.body with | [a, b, c, d] => some (.timeMark f.tag (word32 a b c d)) | _ => none
  else if f.kind = 0x10 then
    match f.body with
    | zone :: option :: rest => (decodeSettings rest).map (decodeSetZone f.tag zone option)
    | _ => none
  else if f.kind = 0x11 then match f.body with | [z] => some (.zoneGet f.tag z) | _ => none
  else if f.kind = 0x12 then match f.body with | [z, p, b] => some (decodeNightGet f.tag z p b) | _ => none
  else if f.kind = 0x13 then match f.body with | [z] => some (.historyGet f.tag z) | _ => none
  else if f.kind = 0x14 then match f.body with | [z, a] => some (decodeHoldZone f.tag z a) | _ => none
  else if f.kind = 0x15 then match f.body with | [z, o] => some (decodeClearZone f.tag z o) | _ => none
  else if f.kind = 0x16 then match f.body with | [z] => some (.baselineGet f.tag z) | _ => none
  else if f.kind = 0x17 then
    match f.body with
    | [z, b0, b1, b2, b3, s0, s1, s2, s3, n] =>
      some (.baselinePut f.tag z (word32 b0 b1 b2 b3) (word32 s0 s1 s2 s3) n)
    | _ => none
  else if f.kind = 0x20 then
    match f.body with
    | slot :: rest => (decodeBinding rest).map (.stageMeter f.tag slot)
    | _ => none
  else if f.kind = 0x21 then match f.body with | [] => some (.commitStage f.tag) | _ => none
  else if f.kind = 0x22 then match f.body with | [] => some (.discardStage f.tag) | _ => none
  else if f.kind = 0x23 then match f.body with | [m] => some (.meterGet f.tag m) | _ => none
  else if f.kind = 0x24 then match f.body with | [m] => some (.meterRelease f.tag m) | _ => none
  else if f.kind = 0x30 then
    match f.body with
    | [c, m, d, g, t, r] => some (.setChannel f.tag c m d g t r)
    | _ => none
  else if f.kind = 0x31 then match f.body with | [c] => some (.channelGet f.tag c) | _ => none
  else if f.kind = 0x32 then match f.body with | [c, a] => some (decodeGateChannel f.tag c a) | _ => none
  else if f.kind = 0x40 then
    match f.body with
    | [m, a, b, c, d, t0, t1, t2, t3, x0, x1, x2, x3] =>
      some (.reading f.tag m (word32 a b c d) ⟨word32 t0 t1 t2 t3, word32 x0 x1 x2 x3⟩)
    | _ => none
  else if f.kind = 0x41 then decodeBatch f.tag f.body
  else if f.kind = 0x42 then
    match f.body with
    | [z, a, b, c, d, v0, v1] => some (.pressure f.tag z (word32 a b c d) (word16 v0 v1))
    | _ => none
  else if f.kind = 0x43 then decodeTable f.tag f.body
  else if f.kind = 0x50 then match f.body with | [n] => some (.findingsTake f.tag n) | _ => none
  else if f.kind = 0x51 then match f.body with | [] => some (.attnGet f.tag) | _ => none
  else if f.kind = 0x52 then match f.body with | [b] => some (.attnClear f.tag b) | _ => none
  else if f.kind = 0x53 then match f.body with | [b] => some (.attnEnable f.tag b) | _ => none
  else if f.kind = 0x60 then match f.body with | [k, n] => some (.entryRaw f.tag k n) | _ => none
  else if f.kind = 0x61 then match f.body with | [] => some (.checkPass f.tag) | _ => none
  else some (.unknownKind f.tag f.kind f.body)

/-- The frame of a request command (R183); none for the rows that are no request. -/
def encodeRequest : Instr → Option Frame
  | .secondTick _ _ => none
  | .standstillEnd => none
  | .pinChange _ _ _ => none
  | .statusLevelChange _ => none
  | .byteReceived _ => none
  | .frameGapTimeout => none
  | .replySent => none
  | .unknownKind ft kind body => some ⟨ft, kind, body⟩
  | .powerOn _ _ => none
  | .pinReset _ _ => none
  | .statusGet ft => some ⟨ft, 0x01, []⟩
  | .enterSetup ft => some ⟨ft, 0x02, []⟩
  | .leavingPhaseEnd => none
  | .leaveSetup ft => some ⟨ft, 0x03, []⟩
  | .restart ft => some ⟨ft, 0x04, []⟩
  | .restartClear => none
  | .setClock ft t => some ⟨ft, 0x05, be32 t⟩
  | .setGrid ft g =>
    some ⟨ft, 0x06, [g.interval] ++ be32 g.windowStart ++ be16 g.windowLength ++ be16 g.closeDelay ++
      be32 g.spanLimit ++ [g.trimStep]⟩
  | .timeMark ft t => some ⟨ft, 0x07, be32 t⟩
  | .setZone ft zone option x => some ⟨ft, 0x10, zone :: option :: settingsBytes x⟩
  | .setZoneUnconfigure ft zone x => some ⟨ft, 0x10, zone :: 1 :: settingsBytes x⟩
  | .zoneGet ft zone => some ⟨ft, 0x11, [zone]⟩
  | .nightGetSummary ft zone part firstBin => some ⟨ft, 0x12, [zone, part, firstBin]⟩
  | .nightGetVolumes ft zone firstBin => some ⟨ft, 0x12, [zone, 1, firstBin]⟩
  | .nightGetPressure ft zone firstBin => some ⟨ft, 0x12, [zone, 2, firstBin]⟩
  | .historyGet ft zone => some ⟨ft, 0x13, [zone]⟩
  | .holdZoneSet ft zone action => some ⟨ft, 0x14, [zone, action]⟩
  | .holdZoneRelease ft zone => some ⟨ft, 0x14, [zone, 1]⟩
  | .clearZoneRelearn ft zone option => some ⟨ft, 0x15, [zone, option]⟩
  | .clearZoneRebase ft zone => some ⟨ft, 0x15, [zone, 1]⟩
  | .clearZoneKeep ft zone => some ⟨ft, 0x15, [zone, 2]⟩
  | .baselineGet ft zone => some ⟨ft, 0x16, [zone]⟩
  | .baselinePut ft zone b sp n => some ⟨ft, 0x17, [zone] ++ be32 b ++ be32 sp ++ [n]⟩
  | .stageMeter ft slot b => some ⟨ft, 0x20, slot :: bindingBytes b⟩
  | .commitStage ft => some ⟨ft, 0x21, []⟩
  | .discardStage ft => some ⟨ft, 0x22, []⟩
  | .meterGet ft slot => some ⟨ft, 0x23, [slot]⟩
  | .meterRelease ft slot => some ⟨ft, 0x24, [slot]⟩
  | .setChannel ft c m d g t r => some ⟨ft, 0x30, [c, m, d, g, t, r]⟩
  | .channelGet ft c => some ⟨ft, 0x31, [c]⟩
  | .gateChannelSet ft c action => some ⟨ft, 0x32, [c, action]⟩
  | .gateChannelRelease ft c => some ⟨ft, 0x32, [c, 1]⟩
  | .reading ft slot tag p => some ⟨ft, 0x40, [slot] ++ be32 tag ++ pairBytes p⟩
  | .readingBatch ft slot tag ps =>
    some ⟨ft, 0x41, [slot] ++ be32 tag ++ [BitVec.ofNat 8 ps.length] ++ (ps.map pairBytes).flatten⟩
  | .readingPair => none
  | .captureRecord _ => none
  | .resumeRecord _ => none
  | .intakeItemEnd _ => none
  | .pressure ft zone t v => some ⟨ft, 0x42, [zone] ++ be32 t ++ be16 v⟩
  | .setPressureTable ft es => some ⟨ft, 0x43, (es.toList.map be16).flatten⟩
  | .pressureTableQuery ft => some ⟨ft, 0x43, []⟩
  | .analyserTakeZone _ => none
  | .nightAnalysisEnd => none
  | .findingsTake ft n => some ⟨ft, 0x50, [n]⟩
  | .attnGet ft => some ⟨ft, 0x51, []⟩
  | .attnClear ft flags => some ⟨ft, 0x52, [flags]⟩
  | .attnEnable ft mask => some ⟨ft, 0x53, [mask]⟩
  | .entryRaw ft kind number => some ⟨ft, 0x60, [kind, number]⟩
  | .checkPass ft => some ⟨ft, 0x61, []⟩
  | .checkPassVerify => none
  | .resetPinLow => none

end Sys2Proof
end

