-- ==== Sys2Proof/Config.lean ====
section
/-! DEFINITION. What the manual leaves free (an opaque constant: no value of it can be proved), and the constants that
several chapters share. -/

namespace Sys2Proof

/-- The 4-byte offset field of a TIME-MARK reply when the exact offset lies outside the 32-bit signed range.
R10 forms the offset exactly and R184 gives the field 4 signed bytes; no file of spec/ says what the field holds
then (log 17). A free value: nothing constrains it. -/
opaque Config.offsetBeyondField : Int → W32

/-- Time end, the largest part time (R2). -/
def Config.timeEnd : Nat := 4294967295

/-- Seconds from one day boundary to the next (1.1). -/
def Config.daySeconds : Nat := 86400

/-- The greatest value of the signed 4-byte flows: the bound of B, S, C, MNF and T (R100, R105, R121, R122). -/
def Config.flowMax : Int := 2147483647

/-- A bin's net volume saturates at this magnitude (R74). -/
def Config.volumeMax : Int := 9223372036854775807

/-- The tolerance of TOO-NEW, in seconds of part time (R58, R81). -/
def Config.tooNewTolerance : Nat := 300

/-- The largest offset a TIME-MARK may ask for, in seconds (R10). -/
def Config.clockFarLimit : Int := 600

/-- The least time between counted edges of one channel, in microseconds of the crystal (R37: 20 ms). -/
def Config.edgeGapMicros : Nat := 20000

/-- The factor of one, in units of 1/16 384 (00_scope.md, Conventions). -/
def Config.unitFactor : Nat := 16384

end Sys2Proof
end

