-- ==== Sys2Proof/Machine/State.lean ====
section
/-! DEFINITION. The state of the KNF-310 as plain data, every piece the manual gives it (INVENTORY.md, State), the state
right after reset, and the reasons a step can stop (none is ever given). -/

namespace Sys2Proof.Machine

open Sys2Proof

/-- Why a step stops with a fault. No constructor: the manual gives every command an effect in every state. -/
inductive Fault
deriving DecidableEq, Repr

/-- Why a step is refused. -/
inductive Refusal
  /-- Raised by an arm of `exec` for a row that has no meaning yet; safe. No arm raises it. -/
  | notModelled (mnemonic : String)
deriving DecidableEq, Repr

/-! ## Time base (01) -/

/-- The six grid settings (1.4): minutes for interval, window length and close delay, seconds for the others. -/
structure Grid where
  interval : Nat
  windowStart : Nat
  windowLength : Nat
  closeDelay : Nat
  spanLimit : Nat
  trimStep : Nat
deriving DecidableEq, Repr

/-- The grid mark a boundary carries (R6). -/
inductive GridMark
  | windowStart (night : Nat)
  | windowEnd (night : Nat)
  | deadline (night : Nat)
deriving DecidableEq, Repr

/-- What a boundary event carries (R3): the boundary time, the interval number and the grid mark. -/
structure BoundaryEvent where
  time : Nat
  interval : Nat
  mark : Option GridMark
deriving DecidableEq, Repr

/-- A boundary event in delivery (R3): the event, and what is still to be done with it. `channels` have it still to take,
as have the stage and the analyser where their fields say so; `verifies` counts the scrub's verifications left (R153). The
trim step comes when nothing is left (R11, R13, log 30). -/
structure BoundaryWork where
  event : BoundaryEvent
  channels : List ChanId
  stage : Bool
  analyser : Bool
  verifies : Nat
deriving DecidableEq, Repr

/-- The time base (1.1). `divider` is the position within the current second, `boundary` the boundary event in delivery,
whose trim step is still to come (log 30). -/
structure TimeBase where
  partTime : Nat
  pendingTrim : Int
  standstill : Nat
  divider : Nat
  boundary : Option BoundaryWork
  grid : Grid
deriving DecidableEq, Repr

/-! ## Meters (02) -/

/-- A meter slot's state (R17), in the order of R186. -/
inductive SlotState
  | unbound
  | awaiting
  | live
  | doubtful
  | faulted
deriving DecidableEq, Repr

/-- A point: a time, and an index (remote) or a count (pulse). -/
structure Point where
  time : Nat
  value : W32
deriving DecidableEq, Repr

/-- The direction of a membership (2.2). -/
inductive Dir
  | inward
  | outward
deriving DecidableEq, Repr

/-- A meter slot (2.1) with the fault mark of its entry (9.1). -/
structure MeterSlot where
  state : SlotState
  binding : MeterBinding
  code : W16
  mark : Bool
  lastPoint : Option Point
  doubt : Nat
  lost : Bool
deriving DecidableEq, Repr

/-- A pending binding in the stage (2.4). -/
structure PendingBinding where
  slot : SlotId
  binding : MeterBinding
deriving DecidableEq, Repr

/-- The stage (2.4). `due`: a pending commit whose boundary fell while the intake held an item (R29). -/
structure Stage where
  bindings : List PendingBinding
  commitPending : Bool
  due : Bool
deriving DecidableEq, Repr

/-! ## Channels (03) -/

/-- A channel's mode (3.1). -/
inductive ChanMode
  | off
  | count
  | status
deriving DecidableEq, Repr

/-- A channel's state (R36). -/
inductive ChanState
  | off
  | status
  | counting
  | gatePending
  | gated
  | releaseWait
deriving DecidableEq, Repr

/-- A capture record (R43, R44): PULSE (t, c), BOUNDARY (t, c), RESUME (g, cg, r, cr). -/
inductive Capture
  | pulse (t : Nat) (c : W32)
  | boundary (t : Nat) (c : W32)
  | resume (g : Nat) (cg : W32) (r : Nat) (cr : W32)
deriving DecidableEq, Repr

/-- A pulse channel (3.1). `pinHigh` is the pin's level, `edgeCounted` whether an edge has been counted since the channel
entered COUNT mode (R37), `conditioning` whether the 2 s of R38 are running. `boundaryTiming` and `manualRestart` are
the gate timing and restart settings; `asserted` is the status level. -/
structure Channel where
  mode : ChanMode
  divider : Nat
  gateLine : Option ChanId
  boundaryTiming : Bool
  manualRestart : Bool
  state : ChanState
  tally : W32
  phase : Nat
  asserted : Bool
  softGate : Bool
  gateRecord : Option (Nat × W32)
  list : List Capture
  overflow : Bool
  pinHigh : Bool
  edgeCounted : Bool
  conditioning : Bool
deriving DecidableEq, Repr

/-! ## Nights (05, 06) -/

/-- The state of an open night record (6.1), in the order of R23. -/
inductive RecordState
  | waiting
  | collecting
  | draining
  | closing
deriving DecidableEq, Repr

/-- A bin of a night: its net volume, and its pressure sum and count (5.1, 6.1). -/
structure Bin where
  volume : Int
  pressureSum : Nat
  pressureCount : Nat
deriving DecidableEq, Repr

/-- A member entry of an open night record: reach and gap set (4.6, 6.1). Bit k of `gaps` stands for bin k (R184). -/
structure Member where
  slot : SlotId
  dir : Dir
  reach : Option Nat
  gaps : W32
deriving DecidableEq, Repr

/-- An open night record (6.1); its zone is the one that holds it. -/
structure NightRecord where
  night : Nat
  state : RecordState
  bins : List Bin
  members : List Member
  held : Bool
  changed : Bool
deriving DecidableEq, Repr

/-- The pressure part of a JUDGED night's figures (R102, R103, R107). -/
inductive PressureAnswer
  | corrected (pavg ratio index fraction : Nat)
  | switchOff
  | fewSamples
deriving DecidableEq, Repr

/-- The class of an analysed or ended night with its figures (R98, R107). -/
inductive NightClass
  | held
  | membershipChanged
  | short (complete : Nat)
  | ended
  | balance (complete : Nat) (mnf : Int) (start : Nat)
  | judged (complete : Nat) (mnf : Int) (start : Nat) (pressure : PressureAnswer) (factor : Nat) (corrected : Int)
deriving DecidableEq, Repr

/-- A zone's last close record (R107). -/
structure CloseRecord where
  night : Nat
  cls : NightClass
deriving DecidableEq, Repr

/-! ## Zones (07, 08) -/

/-- A zone's condition (R125). -/
inductive Condition
  | unconfigured
  | settling
  | clear
  | watch
  | suspect
  | burst
  | confirmed
  | fault
deriving DecidableEq, Repr

/-- The outcome of a history entry (R126). -/
inductive NightOutcome
  | settling
  | normal
  | exceed
  | burst
  | balance
  | incomplete
  | held
deriving DecidableEq, Repr

/-- A history entry (R126). -/
structure HistoryEntry where
  night : Nat
  outcome : NightOutcome
  corrected : Option Int
  excess : Option Int
  mnf : Option Int
  uncorrected : Bool
deriving DecidableEq, Repr

/-- A zone: its configuration entry with code and fault mark (2.3, 9.1), its condition as kept (8.1; what a reader finds
is `Zone.condition`, R20), its history and counts (8.1), its baseline state (7.1), its open night record (6.1) and its last
close record (R107). -/
structure Zone where
  entry : ZoneEntry
  code : W16
  mark : Bool
  kept : Condition
  history : List HistoryEntry
  run : Nat
  episodes : Nat
  holdFlag : Bool
  lost : Bool
  baseline : Int
  spread : Int
  settling : Nat
  record : Option NightRecord
  lastClose : Option CloseRecord
deriving DecidableEq, Repr

/-! ## Findings (08) -/

/-- The subject of a finding, and the owner of an entry: a zone or a meter slot (R143, R147). -/
inductive Subject
  | zone (z : ZoneId)
  | meter (m : SlotId)
deriving DecidableEq, Repr

/-- A finding's kind (R143), in the order of R186. -/
inductive FindingKind
  | settled
  | watch
  | suspect
  | burst
  | confirmed
  | cleared
  | balance
  | meterDoubt
  | entryFault
deriving DecidableEq, Repr

/-- A finding record (R143). -/
structure Finding where
  kind : FindingKind
  subject : Subject
  night : Option Nat
  figures : Option (Int × Int)
  mnf : Option Int
deriving DecidableEq, Repr

/-! ## Link (12) -/

/-- The status codes (R181). -/
inductive Status
  | ok
  | accepted
  | unknownKind
  | badLength
  | range
  | wrongState
  | noSuch
  | tagMismatch
  | source
  | order
  | conflict
  | tooNew
  | late
  | stageFull
  | stageLocked
  | invalid
  | busy
  | clockFar
  | faulted
deriving DecidableEq, Repr

/-- A reply: the request's tag and kind, the status, the two marks of the flags byte, and the body (R176, R180). -/
structure Reply where
  tag : Byte
  kind : Byte
  status : Status
  dropped : Bool
  attn : Bool
  body : List Byte
deriving DecidableEq, Repr

/-- What has become of the request in hand: it waits for its owner, its owner is at work on it, or its reply is being
sent (R178, R179). -/
inductive HandPhase
  | waiting
  | working
  | sending (r : Reply)
deriving DecidableEq, Repr

/-- The request in hand (R178). -/
structure InHand where
  frame : Frame
  phase : HandPhase
deriving DecidableEq, Repr

/-- The receiver (R177): hunting, or in a frame with the bytes received since the start byte, oldest first. -/
inductive Receiver
  | hunting
  | inFrame (bytes : List Byte)
deriving DecidableEq, Repr

/-- The line rate chosen by the strap pins (R175). -/
inductive LineRate
  | r9600
  | r38400
  | r115200
  | r460800
deriving DecidableEq, Repr

/-- The link controller, and the RESET pin's level (R175 to R178, R188). -/
structure Link where
  rx : Receiver
  queue : List Frame
  hand : Option InHand
  dropped : Bool
  rate : LineRate
  resetLow : Bool
deriving DecidableEq, Repr

/-! ## Intake (04) -/

/-- The outcome of a taken pair (R60), in the order of R186. -/
inductive PairOutcome
  | first
  | applied
  | duplicate
  | late
  | withheld
  | implausible
  | doubtful
deriving DecidableEq, Repr

/-- A READING or READING-BATCH in hand: its slot byte, the pairs still to take, the outcomes of the pairs taken, and once
the item has ended its status with the item byte of the refusal detail (R57 to R60, R182). -/
structure ReadingJob where
  slot : Byte
  batch : Bool
  todo : List Pair
  outcomes : List PairOutcome
  ended : Option (Status × Nat)
deriving DecidableEq, Repr

/-- The slot under which an item's points are handled: its state as read when the item was taken (R55, R61), and the zones
whose open records accept them, each with its record's night. Those are read when a RESUME record is taken (R62), and for
any other point when the point is handled (R71, R97). -/
structure TakenSlot where
  slot : SlotId
  state : SlotState
  nights : List (ZoneId × Nat)
deriving DecidableEq, Repr

/-- The item in hand (4.1). `chosen` and `link`: taken at the end of the item before, its work not yet begun; a capture
record with the slot found for it, as read then. `served`: a capture record whose work is done, with its slot. -/
inductive IntakeHand
  | idle
  | chosen (ch : ChanId) (r : Capture) (slot : Option TakenSlot)
  | served (ch : ChanId) (slot : Option SlotId)
  | link
  | reading (job : ReadingJob)
deriving DecidableEq, Repr

/-- The intake engine (4.1). The pointer names a requester: a channel, or 16 for the link (R54). `touched`: the zones
whose record the item in hand changed (R56). `releaseWaiting`: a METER-RELEASE that waits for the item's end (R55). -/
structure Intake where
  hand : IntakeHand
  pointer : Fin 17
  touched : List ZoneId
  releaseWaiting : Option SlotId
deriving DecidableEq, Repr

/-! ## Analyser, checker, modes, attention -/

/-- The analysis in hand (R97): the zone, its entry as verified, the member slots that were FAULTED when the zone was
taken, and whether steps 2 and 3 of an entry fault wait for the analysis to end. -/
structure Analysis where
  zone : ZoneId
  settings : ZoneSettings
  faulted : List SlotId
  deferredFault : Bool
deriving DecidableEq, Repr

/-- The night analyser's own state (R96). `raced`: the zones that joined the empty closing set in one instant while the
analyser was idle, any of which may be taken first. -/
structure Analyser where
  analysing : Option Analysis
  raced : List ZoneId
deriving DecidableEq, Repr

/-- The origin of a check pass (9.1), in the order of R187. -/
inductive PassOrigin
  | request
  | startUp
deriving DecidableEq, Repr

/-- A check pass in flight (9.1). -/
structure CheckPass where
  origin : PassOrigin
  next : Fin 176
  mismatches : Nat
deriving DecidableEq, Repr

/-- The last pass result (9.1). -/
structure PassResult where
  origin : PassOrigin
  abandoned : Bool
  checked : Nat
  mismatches : Nat
deriving DecidableEq, Repr

/-- The entry checker's own state (9.1); the fault marks stand with their entries. -/
structure Checker where
  scrub : Fin 176
  pass : Option CheckPass
  lastPass : Option PassResult
deriving DecidableEq, Repr

/-- The mode (R158), in the order of R187. -/
inductive Mode
  | setup
  | starting
  | run
deriving DecidableEq, Repr

/-- The counts of the leaving phase (R159, R160): the bindings applied, and the zones analysed, each of them once (log 41). -/
structure Leaving where
  applied : Nat
  analysed : List ZoneId
deriving DecidableEq, Repr

/-- The mode controller (R158, R159, R164). -/
structure ModeControl where
  mode : Mode
  leaving : Option Leaving
  restarting : Bool
deriving DecidableEq, Repr

/-- The attention unit (R167): latched flags and enable mask, bit order of R184. -/
structure Attention where
  latched : Byte
  mask : Byte
deriving DecidableEq, Repr

/-- The whole part, and the queue of commands waiting to be taken (first in, first out). -/
structure State where
  time : TimeBase
  zones : Vector Zone 48
  meters : Vector MeterSlot 128
  stage : Stage
  channels : Vector Channel 16
  intake : Intake
  table : Vector W16 17
  analyser : Analyser
  findings : List Finding
  checker : Checker
  ctl : ModeControl
  attn : Attention
  link : Link
  pending : List Instr
deriving DecidableEq, Repr

/-! ## Reset -/

/-- The reset grid (1.4). -/
def resetGrid : Grid :=
  { interval := 15, windowStart := 7200, windowLength := 120, closeDelay := 480, spanLimit := 7200, trimStep := 2 }

/-- A zone after power-on or pin reset (R20, R107, R110, R146). -/
def resetZone : Zone :=
  { entry := clearedZoneEntry, code := zoneCode clearedZoneEntry, mark := false, kept := .unconfigured,
    history := [], run := 0, episodes := 0, holdFlag := false, lost := false, baseline := 0, spread := 0,
    settling := 0, record := none, lastClose := none }

/-- A meter slot after power-on or pin reset (2.1). -/
def resetMeter : MeterSlot :=
  { state := .unbound, binding := clearedBinding, code := bindingCode clearedBinding, mark := false,
    lastPoint := none, doubt := 0, lost := false }

/-- A channel after power-on or pin reset (3.1); the pin's level is an input, high at `State.reset` (DESIGN CHOICE,
log 12, unsafe). -/
def resetChannel : Channel :=
  { mode := .off, divider := 1, gateLine := none, boundaryTiming := false, manualRestart := false, state := .off,
    tally := 0, phase := 0, asserted := false, softGate := false, gateRecord := none, list := [], overflow := false,
    pinHigh := true, edgeCounted := false, conditioning := false }

/-- The part right after power-on or pin reset (R166), with the line rate of two low straps (DESIGN CHOICE, log 13,
unsafe) and no command waiting. The latched flags are RESTARTED alone, the mask all but NIGHT-CLOSED (R167). -/
def State.reset : State :=
  { time := { partTime := 0, pendingTrim := 0, standstill := 0, divider := 0, boundary := none, grid := resetGrid }
    zones := Vector.replicate 48 resetZone
    meters := Vector.replicate 128 resetMeter
    stage := { bindings := [], commitPending := false, due := false }
    channels := Vector.replicate 16 resetChannel
    intake := { hand := .idle, pointer := 16, touched := [], releaseWaiting := none }
    table := Vector.replicate 17 16384
    analyser := { analysing := none, raced := [] }
    findings := []
    checker := { scrub := 0, pass := none, lastPass := none }
    ctl := { mode := .setup, leaving := none, restarting := false }
    attn := { latched := 0x20, mask := 0x7F }
    link := { rx := .hunting, queue := [], hand := none, dropped := false, rate := .r9600, resetLow := false }
    pending := [] }

end Sys2Proof.Machine
end

