-- ==== Sys2Proof/Machine/Grid.lean ====
section
/-! DEFINITION. The night arithmetic of the grid (01 R3, R5, R6) and the clock's own moves (R1, R11, R12). -/

namespace Sys2Proof.Machine

open Sys2Proof

/-- The interval length in seconds, I × 60. -/
def Grid.seconds (g : Grid) : Nat := g.interval * 60

/-- n, the number of bins of the window (1.4). -/
def Grid.binCount (g : Grid) : Nat := g.windowLength / g.interval

/-- W, the number of bins in one hour (1.4). -/
def Grid.hourWidth (g : Grid) : Nat := 60 / g.interval

/-- Ws(N) (R5). -/
def Grid.ws (g : Grid) (night : Nat) : Nat := night * Config.daySeconds + g.windowStart

/-- The start of bin k of night N, which is the end of bin k − 1 (R5). -/
def Grid.binStart (g : Grid) (night k : Nat) : Nat := g.ws night + k * g.seconds

/-- We(N) (R5). -/
def Grid.we (g : Grid) (night : Nat) : Nat := g.ws night + g.binCount * g.seconds

/-- The deadline of night N (R5). -/
def Grid.deadline (g : Grid) (night : Nat) : Nat := g.we night + g.closeDelay * 60

/-- Night N is on the grid when its deadline is at most time end (R5). -/
def Grid.onGrid (g : Grid) (night : Nat) : Bool := g.deadline night ≤ Config.timeEnd

/-- The night whose window contains t, if any (R5). -/
def Grid.nightOf (g : Grid) (t : Nat) : Option Nat :=
  if g.windowStart ≤ t then
    let night := (t - g.windowStart) / Config.daySeconds
    if t < g.we night then some night else none
  else none

/-- The first night at or after t: the smallest N with Ws(N) ≥ t (R5). -/
def Grid.firstNight (g : Grid) (t : Nat) : Nat :=
  (t - g.windowStart + (Config.daySeconds - 1)) / Config.daySeconds

/-- The grid mark of boundary time b, if it carries one (R6): the night is the one whose window start lies at most a
day before b. -/
def Grid.markAt (g : Grid) (b : Nat) : Option GridMark :=
  if g.windowStart ≤ b then
    let night := (b - g.windowStart) / Config.daySeconds
    if b = g.ws night then some (.windowStart night)
    else if b = g.we night then some (.windowEnd night)
    else if b = g.deadline night then some (.deadline night)
    else none
  else none

/-- The interval number of boundary time b: j = (b mod 86 400) / (I × 60), 0 at each day boundary (R3). -/
def Grid.intervalAt (g : Grid) (b : Nat) : Nat := b % Config.daySeconds / g.seconds

/-- The boundary event of boundary time b (R3). -/
def Grid.eventAt (g : Grid) (b : Nat) : BoundaryEvent :=
  { time := b, interval := g.intervalAt b, mark := g.markAt b }

/-- A one-second advance to `t` raises a boundary event when `t` is a multiple of I × 60 (R3). -/
def Grid.isBoundary (g : Grid) (t : Nat) : Bool := t % g.seconds = 0

/-- The trim step worked at a boundary (R11, R12): a jump for a positive pending trim, a standstill for a negative one. -/
def TimeBase.trim (t : TimeBase) : TimeBase :=
  let step := min t.pendingTrim.natAbs t.grid.trimStep
  if 0 < t.pendingTrim then
    { t with partTime := min (t.partTime + step) Config.timeEnd, pendingTrim := t.pendingTrim - step }
  else if t.pendingTrim < 0 then
    { t with standstill := step, pendingTrim := t.pendingTrim + step }
  else t

/-- Whether the next tick advances part time (R1). -/
def TimeBase.advances (t : TimeBase) : Bool := t.standstill = 0 && t.partTime < Config.timeEnd

/-- The tick itself (R1): a standstill counts down, part time advances, or it holds at time end. A new second begins. -/
def TimeBase.tick (t : TimeBase) : TimeBase :=
  if 0 < t.standstill then { t with standstill := t.standstill - 1, divider := 0 }
  else if t.partTime < Config.timeEnd then { t with partTime := t.partTime + 1, divider := 0 }
  else { t with divider := 0 }

end Sys2Proof.Machine
end

