-- ==== Sys2Proof/Machine/Operands.lean ====
section
/-! DEFINITION. Reading the operands of commands and the stored fields of entries: object numbers, permitted values, and
which byte of a request body a RANGE refusal names (R182). -/

namespace Sys2Proof.Machine

open Sys2Proof

/-- A zone number 0–47. -/
def zoneOf (b : Byte) : Option ZoneId := if h : b.toNat < 48 then some ⟨b.toNat, h⟩ else none

/-- A slot number 0–127. -/
def slotOf (b : Byte) : Option SlotId := if h : b.toNat < 128 then some ⟨b.toNat, h⟩ else none

/-- A channel number 0–15. -/
def chanOf (b : Byte) : Option ChanId := if h : b.toNat < 16 then some ⟨b.toNat, h⟩ else none

/-- A direction byte: 0 IN, 1 OUT (R185); any other stored value reads as OUT (DESIGN CHOICE, log 15, unsafe). -/
def dirOf (b : Byte) : Dir := if b = 0 then .inward else .outward

/-- The memberships a stored binding lists (2.1, R185). A zone byte above 47 names no zone, and a count above 2 reads as
2 (DESIGN CHOICE, log 15, unsafe; only a corrupted entry holds one). -/
def memberships (b : MeterBinding) : List (ZoneId × Dir) :=
  ([(b.zone1, b.dir1), (b.zone2, b.dir2)].take b.count.toNat).filterMap
    fun p => (zoneOf p.1).map fun z => (z, dirOf p.2)

/-- The stored source is REMOTE (R185). -/
def isRemote (b : MeterBinding) : Bool := b.source = 1

/-- The stored source is PULSE (R185). -/
def isPulse (b : MeterBinding) : Bool := b.source = 2

/-- Two bindings have the same source when both are REMOTE, or both are PULSE on the same channel (R30). -/
def sameSource (a b : MeterBinding) : Bool :=
  (isRemote a && isRemote b) || (isPulse a && isPulse b && a.channel = b.channel)

/-- A flow setting: 0 … 2 000 000 000 mL/h (2.3). -/
def flowInRange (x : W32) : Bool := x.toNat ≤ 2000000000

/-- A small setting between two bounds. -/
def byteIn (lo hi : Nat) (b : Byte) : Bool := lo ≤ b.toNat && b.toNat ≤ hi

/-- The first of a list of (offset, test) pairs whose test fails. -/
def firstFailing (tests : List (Nat × Bool)) : Option Nat := (tests.find? fun t => !t.2).map Prod.fst

/-- The offset in the SET-ZONE body of the first setting outside its permitted values (2.3, R21, R183). Tfloor < Tb is
charged to Tb and K ≤ M to M. A K above 8 is charged to K itself, offset 22 (the model's reading of 1 ≤ K ≤ M ≤ 8, log 25). -/
def settingsFault (x : ZoneSettings) : Option Nat :=
  firstFailing
    [(2, flowInRange x.lz),
     (6, 100 ≤ x.pref.toNat && x.pref.toNat ≤ 20000),
     (8, byteIn 0 1 x.correction),
     (9, flowInRange x.tfloor),
     (13, byteIn 1 32 x.multiplier),
     (14, flowInRange x.tburst && x.tfloor.toNat < x.tburst.toNat),
     (18, flowInRange x.balance),
     (22, byteIn 1 8 x.kNights),
     (23, byteIn 1 8 x.mNights && x.kNights.toNat ≤ x.mNights.toNat),
     (24, byteIn 1 7 x.rClear),
     (25, byteIn 0 7 x.lLatch),
     (26, byteIn 3 30 x.nSettle),
     (27, byteIn 2 6 x.shift),
     (28, x.holdLine = 0xFF || byteIn 0 15 x.holdLine)]

/-- The grid that the six fields of SET-GRID spell. -/
def gridOf (f : GridFields) : Grid :=
  { interval := f.interval.toNat, windowStart := f.windowStart.toNat, windowLength := f.windowLength.toNat,
    closeDelay := f.closeDelay.toNat, spanLimit := f.spanLimit.toNat, trimStep := f.trimStep.toNat }

/-- I is one of the five lengths (R8). -/
def intervalOk (g : Grid) : Bool := [5, 10, 15, 20, 30].contains g.interval

/-- The window start is permitted (R8). -/
def windowStartOk (g : Grid) : Bool := g.windowStart ≤ 86399 && g.windowStart % g.seconds = 0

/-- The window length is permitted; W ≤ n ≤ 32 is charged to it (R8). -/
def windowLengthOk (g : Grid) : Bool :=
  60 ≤ g.windowLength && g.windowLength ≤ 480 && g.windowLength % g.interval = 0 &&
    g.hourWidth ≤ g.binCount && g.binCount ≤ 32

/-- The close delay is permitted; window length + D ≤ 1 320 is charged to it (R8). -/
def closeDelayOk (g : Grid) : Bool :=
  60 ≤ g.closeDelay && g.closeDelay ≤ 1200 && g.closeDelay % g.interval = 0 &&
    g.windowLength + g.closeDelay ≤ 1320

/-- The span limit is permitted (R8). -/
def spanLimitOk (g : Grid) : Bool := 900 ≤ g.spanLimit && g.spanLimit ≤ 86400

/-- The trim step is permitted (R8). -/
def trimStepOk (g : Grid) : Bool := 1 ≤ g.trimStep && g.trimStep ≤ 4

/-- The offset in the SET-GRID body of the first setting that fails a condition of 1.4 (R8, R183). -/
def gridFault (g : Grid) : Option Nat :=
  firstFailing
    [(0, intervalOk g), (1, windowStartOk g), (5, windowLengthOk g), (7, closeDelayOk g), (9, spanLimitOk g),
     (13, trimStepOk g)]

/-- The tests of STAGE-METER's test 2 on a REMOTE or PULSE binding, in the order of R25, with body offsets. -/
def boundBindingFault (b : MeterBinding) : Option Nat :=
  firstFailing
    [(3, b.tag != 0),
     (7, 1 ≤ b.volume.toNat && b.volume.toNat ≤ 1000000),
     (12, 1 ≤ b.qmax.toNat && b.qmax.toNat ≤ 1000000),
     (11, isPulse b || byteIn 4 9 b.digits),
     (2, isRemote b || byteIn 0 15 b.channel),
     (16, byteIn 0 2 b.count),
     (17, b.count.toNat < 1 || byteIn 0 47 b.zone1),
     (18, b.count.toNat < 1 || byteIn 0 1 b.dir1),
     (19, b.count.toNat < 2 || byteIn 0 47 b.zone2),
     (20, b.count.toNat < 2 || byteIn 0 1 b.dir2),
     (19, b.count.toNat < 2 || b.zone1 != b.zone2)]

/-- STAGE-METER's test 2 without the slot number (R25): for source NONE no other field is tested. -/
def bindingFault (b : MeterBinding) : Option Nat :=
  if 2 < b.source.toNat then some 1
  else if b.source = 0 then none
  else boundBindingFault b

/-- The binding as the stage stores it (R25): NONE clears every other field, REMOTE stores channel 0, PULSE stores no
digits, and memberships beyond those listed are 0. -/
def storedBinding (b : MeterBinding) : MeterBinding :=
  if b.source = 0 then clearedBinding
  else
    { b with
      channel := if isPulse b then b.channel else 0
      digits := if isPulse b then 0 else b.digits
      zone1 := if b.count.toNat < 1 then 0 else b.zone1
      dir1 := if b.count.toNat < 1 then 0 else b.dir1
      zone2 := if b.count.toNat < 2 then 0 else b.zone2
      dir2 := if b.count.toNat < 2 then 0 else b.dir2 }

/-- A channel mode byte: 0 OFF, 1 COUNT, 2 STATUS (R183). -/
def chanModeOf (b : Byte) : ChanMode := if b = 1 then .count else if b = 2 then .status else .off

/-- SET-CHANNEL's fields after the channel number, in the order of R49, with body offsets. `own` is the channel. -/
def channelFault (own : ChanId) (mode divider gateLine timing restartMode : Byte) : Option Nat :=
  firstFailing
    [(1, byteIn 0 2 mode),
     (2, divider = 1 || divider = 4 || divider = 16),
     (3, gateLine = 0xFF || (byteIn 0 15 gateLine && gateLine.toNat != own.val)),
     (4, byteIn 0 1 timing),
     (5, byteIn 0 1 restartMode)]

/-- BASELINE-PUT's test 4 (R123), with body offsets. -/
def baselineFault (b s : W32) (n : Byte) : Option Nat :=
  firstFailing [(1, b.toNat ≤ 2147483647), (5, s.toNat ≤ 2147483647), (9, n.toNat ≤ 30)]

end Sys2Proof.Machine
end

