-- ==== Sys2Proof/Machine/Ops.lean ====
section
/-! DEFINITION. The named operations over the registers: one reader and one writer for each table, and the views that the
manual derives from stored state (member sets, holds, the closing set, the faulted count). -/

namespace Sys2Proof.Machine

open Sys2Proof

/-- What a step answers. -/
abbrev Result := Host.Outcome State Fault Refusal

/-! ## Readers and writers -/

/-- Zone z. -/
def State.zone (s : State) (z : ZoneId) : Zone := s.zones[z.val]

/-- Write zone z. -/
def State.putZone (s : State) (z : ZoneId) (x : Zone) : State := { s with zones := s.zones.set z.val x z.isLt }

/-- Change zone z. -/
def State.modZone (s : State) (z : ZoneId) (f : Zone → Zone) : State := s.putZone z (f (s.zone z))

/-- Change every zone. -/
def State.mapZones (s : State) (f : ZoneId → Zone → Zone) : State :=
  { s with zones := Vector.ofFn fun z => f z (s.zone z) }

/-- Meter slot m. -/
def State.meter (s : State) (m : SlotId) : MeterSlot := s.meters[m.val]

/-- Write meter slot m. -/
def State.putMeter (s : State) (m : SlotId) (x : MeterSlot) : State :=
  { s with meters := s.meters.set m.val x m.isLt }

/-- Change meter slot m. -/
def State.modMeter (s : State) (m : SlotId) (f : MeterSlot → MeterSlot) : State := s.putMeter m (f (s.meter m))

/-- Change every meter slot. -/
def State.mapMeters (s : State) (f : SlotId → MeterSlot → MeterSlot) : State :=
  { s with meters := Vector.ofFn fun m => f m (s.meter m) }

/-- Channel c. -/
def State.channel (s : State) (c : ChanId) : Channel := s.channels[c.val]

/-- Write channel c. -/
def State.putChannel (s : State) (c : ChanId) (x : Channel) : State :=
  { s with channels := s.channels.set c.val x c.isLt }

/-- Change channel c. -/
def State.modChannel (s : State) (c : ChanId) (f : Channel → Channel) : State := s.putChannel c (f (s.channel c))

/-- Change every channel. -/
def State.mapChannels (s : State) (f : ChanId → Channel → Channel) : State :=
  { s with channels := Vector.ofFn fun c => f c (s.channel c) }

/-- Change the time base. -/
def State.modTime (s : State) (f : TimeBase → TimeBase) : State := { s with time := f s.time }

/-- Change the stage. -/
def State.modStage (s : State) (f : Stage → Stage) : State := { s with stage := f s.stage }

/-- Change the intake engine. -/
def State.modIntake (s : State) (f : Intake → Intake) : State := { s with intake := f s.intake }

/-- Change the night analyser. -/
def State.modAnalyser (s : State) (f : Analyser → Analyser) : State := { s with analyser := f s.analyser }

/-- Replace the findings queue. -/
def State.setFindings (s : State) (q : List Finding) : State := { s with findings := q }

/-- Change the entry checker. -/
def State.modChecker (s : State) (f : Checker → Checker) : State := { s with checker := f s.checker }

/-- Change the mode controller. -/
def State.modCtl (s : State) (f : ModeControl → ModeControl) : State := { s with ctl := f s.ctl }

/-- Change the attention unit. -/
def State.modAttn (s : State) (f : Attention → Attention) : State := { s with attn := f s.attn }

/-- Change the link controller. -/
def State.modLink (s : State) (f : Link → Link) : State := { s with link := f s.link }

/-- Replace the pressure response table. -/
def State.setTable (s : State) (t : Vector W16 17) : State := { s with table := t }

/-! ## Shorthands -/

/-- The grid in force. -/
def State.grid (s : State) : Grid := s.time.grid

/-- Part time. -/
def State.now (s : State) : Nat := s.time.partTime

/-- The mode. -/
def State.mode (s : State) : Mode := s.ctl.mode

/-! ## Views -/

/-- A slot is bound in every state other than UNBOUND (R19). -/
def MeterSlot.bound (m : MeterSlot) : Bool := m.state != .unbound

/-- The memberships of a slot as the table stands: none while it is unbound (R19). -/
def MeterSlot.members (m : MeterSlot) : List (ZoneId × Dir) := if m.bound then memberships m.binding else []

/-- The member set of zone z, in ascending slot order (R19). -/
def State.memberSet (s : State) (z : ZoneId) : List (SlotId × Dir) :=
  (List.finRange 128).flatMap fun m =>
    ((s.meter m).members.filter fun p => p.1 = z).map fun p => (m, p.2)

/-- A zone is settled when its settling count is at least its N_settle (2.3). -/
def Zone.settled (z : Zone) : Bool := z.entry.settings.nSettle.toNat ≤ z.settling

/-- The zone's condition as every reader finds it (R20, R125): while the entry's fault mark is clear, a zone whose stored
configured byte says "not configured" is UNCONFIGURED; otherwise it is the condition kept (log 20). -/
def Zone.condition (z : Zone) : Condition :=
  if !z.mark && z.entry.configured = 0 then .unconfigured else z.kept

/-- Configured and not FAULT (R91, R158). -/
def Zone.inService (z : Zone) : Bool := z.condition != .unconfigured && z.condition != .fault

/-- The status level of a channel that a gate line or a hold line names: it counts only in STATUS mode (R39, R137). -/
def State.lineAsserted (s : State) (line : Option ChanId) : Bool :=
  match line with
  | none => false
  | some c => (s.channel c).mode = .status && (s.channel c).asserted

/-- A configured zone's hold is active while its hold request flag is set or its hold line stands (R137). -/
def State.holdActive (s : State) (z : ZoneId) : Bool :=
  (s.zone z).condition != .unconfigured &&
    ((s.zone z).holdFlag || s.lineAsserted (chanOf (s.zone z).entry.settings.holdLine))

/-- The sources of channel c are asserted while its software gate flag is set or its gate line stands (R39). -/
def State.gateAsserted (s : State) (c : ChanId) : Bool :=
  (s.channel c).softGate || s.lineAsserted (s.channel c).gateLine

/-- The zone's open record is CLOSING. -/
def Zone.isClosing (z : Zone) : Bool :=
  match z.record with
  | some r => r.state = .closing
  | none => false

/-- The closing set: the zones whose records are CLOSING, in ascending order (R96). -/
def State.closingSet (s : State) : List ZoneId := (List.finRange 48).filter fun z => (s.zone z).isClosing

/-- The number of entries whose fault mark is set (9.1). -/
def State.faultedCount (s : State) : Nat :=
  s.zones.toList.countP (·.mark) + s.meters.toList.countP (·.mark)

/-! ## The open night record -/

/-- A member entry as it is created: reach "none" and an empty gap set (4.6). -/
def freshMember (p : SlotId × Dir) : Member := { slot := p.1, dir := p.2, reach := none, gaps := 0 }

/-- The state that part time gives a record when it is opened (R91). -/
def Grid.openingState (g : Grid) (night t : Nat) : RecordState :=
  if t < g.ws night then .waiting
  else if t < g.we night then .collecting
  else if t < g.deadline night then .draining
  else .closing

/-- The record opened for zone z and a night (R91): one entry for each member, every bin empty, the held mark set when
it opens COLLECTING under an active hold (R93). -/
def State.newRecord (s : State) (z : ZoneId) (night : Nat) : NightRecord :=
  let state := s.grid.openingState night s.now
  { night := night
    state := state
    bins := List.replicate s.grid.binCount { volume := 0, pressureSum := 0, pressureCount := 0 }
    members := (s.memberSet z).map freshMember
    held := state = .collecting && s.holdActive z
    changed := false }

/-- The record of night N when it is on the grid, none otherwise (R91). -/
def State.recordFor (s : State) (z : ZoneId) (night : Nat) : Option NightRecord :=
  if s.grid.onGrid night then some (s.newRecord z night) else none

/-- Zones whose hold has become active since `old` get the held mark on a COLLECTING record (R93, R137). -/
def State.holdEdges (s old : State) : State :=
  s.mapZones fun z x =>
    if !old.holdActive z && s.holdActive z then
      { x with record := x.record.map fun r => if r.state = .collecting then { r with held := true } else r }
    else x

end Sys2Proof.Machine
end

