-- ==== Sys2Proof/Machine/Flags.lean ====
section
/-! DEFINITION. The attention flags (11): latching, the raw conditions, the ATTN line; and the findings queue (8.8),
whose joining and loss latch two of them. -/

namespace Sys2Proof.Machine

open Sys2Proof

/-! ## The flag bits (R184) -/

/-- FINDING, a level flag. -/
def flagFinding : Byte := 0x01
/-- QUEUE-FULL. -/
def flagQueueFull : Byte := 0x02
/-- ENTRY-FAULT, a level flag. -/
def flagEntryFault : Byte := 0x04
/-- CLOCK. -/
def flagClock : Byte := 0x08
/-- CAPTURE-LOST. -/
def flagCaptureLost : Byte := 0x10
/-- RESTARTED. -/
def flagRestarted : Byte := 0x20
/-- READY. -/
def flagReady : Byte := 0x40
/-- NIGHT-CLOSED. -/
def flagNightClosed : Byte := 0x80

/-- A flag latches; one already latched stays so (R168, R169). -/
def State.latch (s : State) (flag : Byte) : State := s.modAttn fun a => { a with latched := a.latched ||| flag }

/-- The flags of a set are unlatched. -/
def State.unlatch (s : State) (flags : Byte) : State :=
  s.modAttn fun a => { a with latched := a.latched &&& ~~~flags }

/-- The raw set: FINDING while the queue is not empty, ENTRY-FAULT while the faulted count is above 0; every event flag
reads clear (R167, R171). -/
def State.rawSet (s : State) : Byte :=
  (if s.findings = [] then 0 else flagFinding) ||| (if s.faultedCount = 0 then 0 else flagEntryFault)

/-- The ATTN line: asserted exactly when at least one latched flag is also enabled; not driven while the RESET pin is
low (R170). -/
def State.attnLine (s : State) : Bool := !s.link.resetLow && (s.attn.latched &&& s.attn.mask) != 0

/-- ATTN-CLEAR: the named latches are cleared, and a level flag whose raw condition stands latches again at once
(R172). -/
def State.clearFlags (s : State) (flags : Byte) : State := (s.unlatch flags).latch (s.rawSet &&& flags)

/-- RESTART: every latch is cleared, RESTARTED latches, then each level flag whose raw condition stands (R174). -/
def State.restartFlags (s : State) : State := s.modAttn fun a => { a with latched := flagRestarted ||| s.rawSet }

/-! ## The findings queue -/

/-- The most findings the queue holds (R144). -/
def findingsMax : Nat := 32

/-- The finding-lost mark of a subject is set (R18, R144). -/
def State.markLost (s : State) : Subject → State
  | .zone z => s.modZone z fun x => { x with lost := true }
  | .meter m => s.modMeter m fun x => { x with lost := true }

/-- A finding is offered to the queue (R144): it joins as the newest, latching FINDING when the queue was empty (R169);
or, with 32 held, it is lost, its subject's mark is set and QUEUE-FULL is raised. -/
def State.offer (s : State) (f : Finding) : State :=
  if s.findings.length < findingsMax then
    let joined := s.setFindings (s.findings ++ [f])
    if s.findings = [] then joined.latch flagFinding else joined
  else (s.markLost f.subject).latch flagQueueFull

/-- Findings are offered in the order in which they were made. -/
def State.offerAll (s : State) (fs : List Finding) : State := fs.foldl State.offer s

end Sys2Proof.Machine
end

