-- ==== Sys2Proof/Machine/Checker.lean ====
section
/-! DEFINITION. The entry checker (09): verification, new faults, and what a fault does to its entry's owner. -/

namespace Sys2Proof.Machine

open Sys2Proof

/-- Entry e of the one sequence: zones 0–47, then slot s as entry 48 + s (R147). -/
def entryOf (e : Fin 176) : Subject :=
  if h : e.val < 48 then .zone ⟨e.val, h⟩ else .meter ⟨e.val - 48, by omega⟩

/-- The recomputed code equals the stored code (R147). -/
def State.entryMatches (s : State) : Subject → Bool
  | .zone z => (s.zone z).code = zoneCode (s.zone z).entry
  | .meter m => (s.meter m).code = bindingCode (s.meter m).binding

/-- The fault mark of an entry (9.1). -/
def State.entryMark (s : State) : Subject → Bool
  | .zone z => (s.zone z).mark
  | .meter m => (s.meter m).mark

/-- The fault mark is set; ENTRY-FAULT latches when the faulted count goes from 0 to 1 (R148 step 1, R169). -/
def State.setMark (s : State) (e : Subject) : State :=
  let marked := match e with
    | .zone z => s.modZone z fun x => { x with mark := true }
    | .meter m => s.modMeter m fun x => { x with mark := true }
  if s.faultedCount = 0 then marked.latch flagEntryFault else marked

/-- A meter entry's fault (R149): an UNBOUND slot stays so, any other becomes FAULTED. -/
def MeterSlot.outOfService (m : MeterSlot) : MeterSlot := if m.bound then { m with state := .faulted } else m

/-- A zone entry's fault (R150, R109, R136), by the condition kept before it and not by the stored configured byte: an
UNCONFIGURED zone stays so; any other enters FAULT and loses its open record, whatever its state. -/
def Zone.outOfService (z : Zone) : Zone :=
  if z.kept = .unconfigured then z else { z with kept := .fault, record := none }

/-- The entry's owner takes it out of service (R148 step 2). -/
def State.outOfService (s : State) : Subject → State
  | .zone z => s.modZone z Zone.outOfService
  | .meter m => s.modMeter m MeterSlot.outOfService

/-- The ENTRY-FAULT finding (R148 step 3): no night number and no figures. -/
def entryFaultFinding (e : Subject) : Finding :=
  { kind := .entryFault, subject := e, night := none, figures := none, mnf := none }

/-- Steps 2 and 3 of a new fault (R148). -/
def State.finishFault (s : State) (e : Subject) : State := (s.outOfService e).offer (entryFaultFinding e)

/-- The analyser holds the owner of this entry (R97). -/
def State.analyses (s : State) (e : Subject) : Bool :=
  match s.analyser.analysing, e with
  | some a, .zone z => a.zone = z
  | _, _ => false

/-- A new fault (R148): steps 1 to 3 in order; steps 2 and 3 wait while the analyser holds the zone (R97). -/
def State.newFault (s : State) (e : Subject) : State :=
  if s.analyses e then
    (s.setMark e).modAnalyser fun a =>
      { a with analysing := a.analysing.map fun x => { x with deferredFault := true } }
  else (s.setMark e).finishFault e

/-- A verification (R147): a mismatch of an entry whose mark is clear makes a new fault; every other verification
changes nothing. -/
def State.verify (s : State) (e : Subject) : State :=
  if s.entryMatches e || s.entryMark e then s else s.newFault e

/-- Verifications taken one after another. -/
def State.verifyAll (s : State) (es : List Subject) : State := es.foldl State.verify s

/-- The check pass in flight, if any, ends ABANDONED and its result is written (R154, R155). -/
def Checker.abandon (c : Checker) : Checker :=
  match c.pass with
  | none => c
  | some p =>
    { c with pass := none
             lastPass := some { origin := p.origin, abandoned := true, checked := p.next.val, mismatches := p.mismatches } }

end Sys2Proof.Machine
end

