-- ==== Sys2Proof/Machine/Apportion.lean ====
section
/-! DEFINITION. Where a point of a meter goes (04, 4.4 to 4.6): spans, plausibility, apportionment by cumulative floors,
reach and gap sets, and what a new point does to its meter. -/

namespace Sys2Proof.Machine

open Sys2Proof

/-- The seconds that [a, b) and [c, d) share. -/
def overlap (a b c d : Nat) : Nat := min b d - max a c

/-- The overlaps of [a, b) with the bins of night N, in ascending bin order (R72). -/
def Grid.binOverlaps (g : Grid) (night a b : Nat) : List Nat :=
  (List.range g.binCount).map fun k => overlap a b (g.binStart night k) (g.binStart night (k + 1))

/-- The set with bin k alone; bit k stands for bin k (R184). -/
def binBit (k : Nat) : W32 := 1#32 <<< k

/-- The bins of night N that [a, b) overlaps by at least one second (R77). -/
def Grid.binsIn (g : Grid) (night a b : Nat) : W32 :=
  (List.range g.binCount).foldl
    (fun m k => if 0 < overlap a b (g.binStart night k) (g.binStart night (k + 1)) then m ||| binBit k else m) 0

/-- An open record is accepting when it is WAITING, COLLECTING or DRAINING (R71). -/
def NightRecord.accepting (r : NightRecord) : Bool := r.state != .closing

/-! ## Reach and gaps of one member -/

/-- Bins are added to the member's gap set (R77). -/
def Member.addGaps (e : Member) (bins : W32) : Member := { e with gaps := e.gaps ||| bins }

/-- Reach becomes the greater of its old value and t, "none" counting as less than any time (R76). -/
def Member.advance (e : Member) (t : Nat) : Member :=
  { e with reach := some (match e.reach with | none => t | some x => max x t) }

/-- The coverage hole that a span starting at t0 opens (R78): from the later of Ws and reach to min(t0, We), when reach
is "none" or earlier than t0 and t0 is later than Ws. -/
def Grid.hole (g : Grid) (night : Nat) (e : Member) (t0 : Nat) : W32 :=
  let start := match e.reach with | none => g.ws night | some x => max (g.ws night) x
  if g.ws night < t0 && start < t0 then g.binsIn night start (min t0 (g.we night)) else 0

/-- The member's coverage after a span [t0, t1) whose bins are a gap (R66, R67, R69, R76, R78). -/
def Grid.gapSpan (g : Grid) (night t0 t1 : Nat) (e : Member) : Member :=
  ((e.addGaps (g.hole night e t0)).addGaps (g.binsIn night t0 t1)).advance (min t1 (g.we night))

/-- The member's coverage after an apportioned span [t0, t1) (R76, R78). -/
def Grid.coverSpan (g : Grid) (night t0 t1 : Nat) (e : Member) : Member :=
  (e.addGaps (g.hole night e t0)).advance (min t1 (g.we night))

/-- The member's coverage after a first reading at t1 (R68): the window before t1 is a gap. -/
def Grid.coverFirst (g : Grid) (night t1 : Nat) (e : Member) : Member :=
  (if g.ws night < t1 then e.addGaps (g.binsIn night (g.ws night) (min t1 (g.we night))) else e).advance
    (min t1 (g.we night))

/-- The member's coverage after the withheld gap [g0, r) of a RESUME record (R62 step 2). -/
def Grid.coverResume (g : Grid) (night g0 r : Nat) (e : Member) : Member :=
  (e.addGaps (g.binsIn night g0 r)).advance (min r (g.we night))

/-- Change the member entry of slot m. -/
def NightRecord.modMember (r : NightRecord) (m : SlotId) (f : Member → Member) : NightRecord :=
  { r with members := r.members.map fun e => if e.slot = m then f e else e }

/-! ## Volume -/

/-- The volume of a span (R65): the difference of the two points modulo 10^d or 2^32, times the volume per count. -/
def spanVolume (b : MeterBinding) (x0 x1 : W32) : Nat :=
  if isPulse b then (x1 - x0).toNat * b.volume.toNat
  else (((x1.toNat : Int) - x0.toNat) % ((10 ^ b.digits.toNat : Nat) : Int)).toNat * b.volume.toNat

/-- A span is implausible when its volume exceeds qmax × length + u (R67). -/
def implausible (b : MeterBinding) (dv length : Nat) : Bool :=
  b.qmax.toNat * length + b.volume.toNat < dv

/-- The shares of a span's volume (R72): `before` is the overlap of the bins already passed; the share of the next bin
is floor(ΔV × overlap up to its end / span) less the same floor up to its start. -/
def sharesFrom (dv span before : Nat) : List Nat → List Nat
  | [] => []
  | o :: rest => (dv * (before + o) / span - dv * before / span) :: sharesFrom dv span (before + o) rest

/-- The shares of a span [t0, t1) of nonzero length for the bins of night N, by cumulative floors (R72). -/
def Grid.shares (g : Grid) (night dv t0 t1 : Nat) : List Nat :=
  sharesFrom dv (t1 - t0) 0 (g.binOverlaps night t0 t1)

/-- The shares of a span of zero length: the whole volume in the bin that contains t1 (R73). -/
def Grid.pointShares (g : Grid) (night dv t1 : Nat) : List Nat :=
  (List.range g.binCount).map fun k =>
    if g.binStart night k ≤ t1 && t1 < g.binStart night (k + 1) then dv else 0

/-- A net volume saturated to ±(2^63 − 1) (R74). -/
def saturateVolume (x : Int) : Int := max (-Config.volumeMax) (min Config.volumeMax x)

/-- A share with the sign of its direction (R74). -/
def signedShare (d : Dir) (v : Nat) : Int :=
  match d with
  | .inward => v
  | .outward => -(v : Int)

/-- Shares are added to the bins of a record, in ascending order (R74). -/
def NightRecord.addShares (r : NightRecord) (d : Dir) (vs : List Nat) : NightRecord :=
  { r with bins := r.bins.zipWith (fun b v => { b with volume := saturateVolume (b.volume + signedShare d v) }) vs }

/-! ## Late volume -/

/-- A span [t0, t1) of nonzero length overlaps the window of some night earlier than `night` (R71). The latest such
night whose window starts before t1 is the one to test. -/
def Grid.overlapsEarlier (g : Grid) (night t0 t1 : Nat) : Bool :=
  if t0 < t1 && g.windowStart < t1 && 0 < night then
    let latest := min (night - 1) ((t1 - 1 - g.windowStart) / Config.daySeconds)
    t0 < g.we latest
  else false

/-- The time t lies in the window of a night earlier than `night` (R73, R82). -/
def Grid.inEarlier (g : Grid) (night t : Nat) : Bool :=
  match g.nightOf t with
  | some k => k < night
  | none => false

/-- The time t lies in the window of `night`. -/
def Grid.inWindow (g : Grid) (night t : Nat) : Bool := g.ws night ≤ t && t < g.we night

/-- Part of an apportioned span is dropped as late for the zone of this record (R71, R73). -/
def Grid.lateFor (g : Grid) (r : NightRecord) (t0 t1 : Nat) : Bool :=
  if t0 = t1 then
    (!r.accepting && g.inWindow r.night t1) || g.inEarlier r.night t1
  else
    (!r.accepting && 0 < overlap t0 t1 (g.ws r.night) (g.we r.night)) || g.overlapsEarlier r.night t0 t1

/-- Part of an apportioned span of slot m is dropped as late for one of its memberships (R75). -/
def State.lateSpan (s : State) (m : SlotId) (t0 t1 : Nat) : Bool :=
  (s.meter m).members.any fun p =>
    match (s.zone p.1).record with
    | some r => s.grid.lateFor r t0 t1
    | none => false

/-! ## One point of a meter

A point is handled under its slot's state as read when the item or the pair was taken (R55, R59), and under its zones'
records as they stand when it is handled (R71, R97), but for a RESUME record, which reads them when it is taken (R62). -/

/-- The zones of slot m's memberships whose open records are accepting now, with the nights of those records (R71). -/
def State.acceptingNights (s : State) (m : SlotId) : List (ZoneId × Nat) :=
  (s.meter m).members.filterMap fun p =>
    match (s.zone p.1).record with
    | some r => if r.accepting then some (p.1, r.night) else none
    | none => none

/-- What a slot brings to the handling of its points, read at this moment (R55, R59, R62): its state and the accepting
records of its zones. -/
def State.readSlot (s : State) (m : SlotId) : TakenSlot :=
  { slot := m, state := (s.meter m).state, nights := s.acceptingNights m }

/-- A slot taken earlier, under its state as read then, with its zones' records read again now: one that has become CLOSING
since accepts nothing (R55, R71, R97). -/
def State.readRecords (s : State) (t : TakenSlot) : TakenSlot := { t with nights := s.acceptingNights t.slot }

/-- For one membership: the zone's record, when it was accepting as the records were read, is changed by `f`, and the zone
is noted when that changed it (R56). -/
def State.touchRecord (s : State) (t : TakenSlot) (f : Dir → NightRecord → NightRecord) (p : ZoneId × Dir) : State :=
  match (s.zone p.1).record with
  | some r =>
    if t.nights.contains (p.1, r.night) then
      let r' := f p.2 r
      let written := s.modZone p.1 fun z => { z with record := some r' }
      if r' = r then written
      else written.modIntake fun i => { i with touched := if i.touched.contains p.1 then i.touched else i.touched ++ [p.1] }
    else s
  | none => s

/-- For each membership of the slot in turn. -/
def State.touchRecords (s : State) (t : TakenSlot) (f : Dir → NightRecord → NightRecord) : State :=
  (s.meter t.slot).members.foldl (fun u p => u.touchRecord t f p) s

/-- The slot's last point becomes p (R70). -/
def State.setPoint (s : State) (m : SlotId) (p : Point) : State := s.modMeter m fun x => { x with lastPoint := some p }

/-- The slot's state becomes `st`; a slot FAULTED since it was read stays FAULTED (R55, log 7), and one UNBOUND since, which
no run reaches, stays UNBOUND (R29). -/
def MeterSlot.become (m : MeterSlot) (st : SlotState) : MeterSlot :=
  if m.state = .faulted || !m.bound then m else { m with state := st }

/-- The records' part of a first reading or a re-anchoring at t1 (R63, R68). -/
def State.coverFirst (s : State) (t : TakenSlot) (t1 : Nat) : State :=
  s.touchRecords t fun _ r => r.modMember t.slot (s.grid.coverFirst r.night t1)

/-- The records' part of a span that is a gap: withheld, implausible or doubtful (R66, R67, R69). -/
def State.coverGap (s : State) (t : TakenSlot) (t0 t1 : Nat) : State :=
  s.touchRecords t fun _ r => r.modMember t.slot (s.grid.gapSpan r.night t0 t1)

/-- The records' part of an apportioned span, of nonzero or zero length (R72 to R74, R76, R78). -/
def State.apportion (s : State) (t : TakenSlot) (dv t0 t1 : Nat) : State :=
  s.touchRecords t fun d r =>
    (r.modMember t.slot (s.grid.coverSpan r.night t0 t1)).addShares d
      (if t0 = t1 then s.grid.pointShares r.night dv t1 else s.grid.shares r.night dv t0 t1)

/-- The METER-DOUBT finding (R67, R143). -/
def meterDoubtFinding (m : SlotId) : Finding :=
  { kind := .meterDoubt, subject := .meter m, night := none, figures := none, mnf := none }

/-- The slot's part of an implausible span (R67): the doubt count rises, and at 3 the slot becomes DOUBTFUL with a
METER-DOUBT finding. -/
def State.doubtSlot (s : State) (m : SlotId) : State :=
  let counted := s.modMeter m fun x => { x with doubt := x.doubt + 1 }
  if 3 ≤ (counted.meter m).doubt then
    (counted.modMeter m fun x => { x.become .doubtful with doubt := 3 }).offer (meterDoubtFinding m)
  else counted

/-- A new point for an AWAITING slot (R68). -/
def State.firstReading (s : State) (t : TakenSlot) (p : Point) : State :=
  ((s.coverFirst t p.time).modMeter t.slot fun x => { x.become .live with doubt := 0 }).setPoint t.slot p

/-- A new point for a LIVE slot with last point p0, not re-anchored (R64 to R67, R72, R73, R75). -/
def State.livePoint (s : State) (t : TakenSlot) (p0 p : Point) : State × PairOutcome :=
  let b := (s.meter t.slot).binding
  let length := p.time - p0.time
  let dv := spanVolume b p0.value p.value
  if !isPulse b && s.grid.spanLimit < length then
    ((s.coverGap t p0.time p.time).setPoint t.slot p, .withheld)
  else if 0 < length && implausible b dv length then
    (((s.coverGap t p0.time p.time).doubtSlot t.slot).setPoint t.slot p, .implausible)
  else
    let placed := (s.apportion t dv p0.time p.time).setPoint t.slot p
    let settled := if 0 < length then placed.modMeter t.slot fun x => { x with doubt := 0 } else placed
    (settled, if s.lateSpan t.slot p0.time p.time then .late else .applied)

/-- What a new point does to its meter (R63, R64). A pulse point earlier than the last point re-anchors the slot. A LIVE
or DOUBTFUL slot without a last point, which no run reaches, is anchored in the same way (log 28). UNBOUND and FAULTED
slots take no point. -/
def State.takePoint (s : State) (t : TakenSlot) (p : Point) : State × PairOutcome :=
  let x := s.meter t.slot
  match t.state, x.lastPoint with
  | .unbound, _ => (s, .doubtful)
  | .faulted, _ => (s, .doubtful)
  | .awaiting, _ => (s.firstReading t p, .first)
  | .live, none => ((s.coverFirst t p.time).setPoint t.slot p, .applied)
  | .doubtful, none => ((s.coverFirst t p.time).setPoint t.slot p, .doubtful)
  | .live, some p0 =>
    if isPulse x.binding && p.time < p0.time then ((s.coverFirst t p.time).setPoint t.slot p, .applied)
    else s.livePoint t p0 p
  | .doubtful, some p0 =>
    if isPulse x.binding && p.time < p0.time then ((s.coverFirst t p.time).setPoint t.slot p, .doubtful)
    else ((s.coverGap t p0.time p.time).setPoint t.slot p, .doubtful)

/-- Step 2 of a RESUME record (R62): [g, r) is a withheld gap and the last point becomes (r, cr). -/
def State.resumeGap (s : State) (t : TakenSlot) (g r : Nat) (cr : W32) : State :=
  (s.touchRecords t fun _ n => n.modMember t.slot (s.grid.coverResume n.night g r)).setPoint t.slot ⟨r, cr⟩

end Sys2Proof.Machine
end

