-- ==== Sys2Proof/Machine/Nights.lean ====
section
/-! DEFINITION. Judging a closed night (06, 6.2 and 6.3, and 5.5): early close, completeness, the minimum hour, the
pressure answer, the factor and the corrected flow. -/

namespace Sys2Proof.Machine

open Sys2Proof

/-- Whether gap bit k is set. -/
def Member.gapAt (e : Member) (k : Nat) : Bool := e.gaps.getLsbD k

/-- The member has accounted for the time up to t. -/
def Member.reaches (e : Member) (t : Nat) : Bool :=
  match e.reach with
  | none => false
  | some x => t ≤ x

/-- The early close test of R94. -/
def Grid.closesEarly (g : Grid) (r : NightRecord) : Bool :=
  (r.state = .collecting || r.state = .draining) && !r.members.isEmpty &&
    r.members.all fun e => e.reaches (g.we r.night)

/-- The early close test is made on zone z's record, and the record becomes CLOSING when it passes (R94). -/
def State.earlyClose (s : State) (z : ZoneId) : State :=
  s.modZone z fun x =>
    { x with record := x.record.map fun r => if s.grid.closesEarly r then { r with state := .closing } else r }

/-- What a grid mark does to one record (R92, R93, R95): `active` is whether the zone's hold is active. -/
def GridMark.onRecord (gm : GridMark) (active : Bool) (r : NightRecord) : NightRecord :=
  match gm with
  | .windowStart n =>
    if r.night = n && r.state = .waiting then { r with state := .collecting, held := r.held || active } else r
  | .windowEnd n => if r.night = n && r.state = .collecting then { r with state := .draining } else r
  | .deadline n => if r.night = n && r.state = .draining then { r with state := .closing } else r

/-- The analyser's part in a boundary event that carries this mark, or none (R92, R95). -/
def State.analyserBoundary (s : State) (mark : Option GridMark) : State :=
  match mark with
  | none => s
  | some gm => s.mapZones fun z x => { x with record := x.record.map (gm.onRecord (s.holdActive z)) }

/-! ## Completeness and the minimum hour -/

/-- Bin k of a record is complete (R99); `faulted` are the slots read as FAULTED. -/
def Grid.binComplete (g : Grid) (r : NightRecord) (faulted : List SlotId) (k : Nat) : Bool :=
  !r.members.isEmpty &&
    r.members.all fun e => e.reaches (g.binStart r.night (k + 1)) && !e.gapAt k && !faulted.contains e.slot

/-- The complete bins of a record, in ascending order (R99). -/
def Grid.completeBins (g : Grid) (r : NightRecord) (faulted : List SlotId) : List Nat :=
  (List.range g.binCount).filter fun k => g.binComplete r faulted k

/-- The candidate start bins: every bin of the hour lies in the window and is complete (R100). -/
def Grid.candidates (g : Grid) (r : NightRecord) (faulted : List SlotId) : List Nat :=
  (List.range g.binCount).filter fun h =>
    (List.range g.hourWidth).all fun i => h + i < g.binCount && g.binComplete r faulted (h + i)

/-- The bins of the hour that starts at bin h. -/
def Grid.hourBins (g : Grid) (r : NightRecord) (h : Nat) : List Bin := (r.bins.drop h).take g.hourWidth

/-- The exact sum of an hour's net volumes (R100). -/
def Grid.hourSum (g : Grid) (r : NightRecord) (h : Nat) : Int := ((g.hourBins r h).map (·.volume)).sum

/-- The least of a list of hours by exact sum, the lowest start bin among equals (R100). -/
def leastHour : List (Nat × Int) → Option (Nat × Int)
  | [] => none
  | x :: rest =>
    match leastHour rest with
    | none => some x
    | some y => if y.2 < x.2 then some y else some x

/-- The minimum hour: its start bin and its exact sum (R100). -/
def Grid.minimumHour (g : Grid) (r : NightRecord) (faulted : List SlotId) : Option (Nat × Int) :=
  leastHour ((g.candidates r faulted).map fun h => (h, g.hourSum r h))

/-- MNF is the sum saturated to ±2 147 483 647 (R100). -/
def saturateFlow (x : Int) : Int := max (-Config.flowMax) (min Config.flowMax x)

/-! ## Pressure -/

/-- The means of the sampled bins of an hour (R89). -/
def sampledMeans (bins : List Bin) : List Nat :=
  (bins.filter fun b => 1 ≤ b.pressureCount).map fun b => b.pressureSum / b.pressureCount

/-- The mean pressure of an hour, when at least ceil(W / 2) of its bins are sampled (R89). -/
def Grid.meanPressure (g : Grid) (bins : List Bin) : Option Nat :=
  let means := sampledMeans bins
  if means.length < (g.hourWidth + 1) / 2 then none else some (means.sum / means.length)

/-- The pressure ratio in units of 1/65 536, clamped (R103 steps 1 and 2). -/
def pressureRatio (pref pavg : Nat) : Nat :=
  max 32768 (min 98304 (if pavg = 0 then 98304 else pref * 65536 / pavg))

/-- The pressure unit's answer for an hour, with the position in the table (R88, R89, R102, R103). -/
def Grid.pressureAnswer (g : Grid) (x : ZoneSettings) (bins : List Bin) : PressureAnswer :=
  if x.correction = 0 then .switchOff
  else
    match g.meanPressure bins with
    | none => .fewSamples
    | some pavg =>
      let ratio := pressureRatio x.pref.toNat pavg
      let position := ratio * 16 - 524288
      .corrected pavg ratio (position / 65536) (position % 65536)

/-- Entry k of the pressure response table. -/
def tableEntry (t : Vector W16 17) (k : Nat) : Nat := (t.toList.getD k 0).toNat

/-- The correction factor interpolated from the table (R104). -/
def interpolate (t : Vector W16 17) (index fraction : Nat) : Nat :=
  if index = 16 then tableEntry t 16
  else
    ((tableEntry t index : Int) +
      (((tableEntry t (index + 1) : Int) - tableEntry t index) * fraction).fdiv 65536).toNat

/-- The factor of a night: one for an UNCORRECTED night (R102). -/
def factorOf (t : Vector W16 17) : PressureAnswer → Nat
  | .switchOff => Config.unitFactor
  | .fewSamples => Config.unitFactor
  | .corrected _ _ index fraction => interpolate t index fraction

/-- The leak part (R102). -/
def leakPart (mnf lz : Int) : Int := max 0 (mnf - lz)

/-- The corrected flow, rounded half up and saturated (R105). -/
def correctedFlow (leak : Int) (factor : Nat) : Int := min Config.flowMax ((leak * factor + 8192).fdiv 16384)

/-! ## The class of a night -/

/-- The class and figures of a night (R98 to R105), under the settings and the FAULTED slots read when the analyser took
the zone. -/
def State.judge (s : State) (a : Analysis) (r : NightRecord) : NightClass :=
  let g := s.grid
  let complete := (g.completeBins r a.faulted).length
  if r.held then .held
  else if r.changed then .membershipChanged
  else
    match g.minimumHour r a.faulted with
    | none => .short complete
    | some (start, sum) =>
      let mnf := saturateFlow sum
      if mnf < -a.settings.balance.toInt then .balance complete mnf start
      else
        let answer := g.pressureAnswer a.settings (g.hourBins r start)
        let factor := factorOf s.table answer
        .judged complete mnf start answer factor (correctedFlow (leakPart mnf a.settings.lz.toInt) factor)

/-- An UNCORRECTED night carries the uncorrected mark (R88, R102). -/
def PressureAnswer.uncorrected : PressureAnswer → Bool
  | .corrected _ _ _ _ => false
  | .switchOff => true
  | .fewSamples => true

end Sys2Proof.Machine
end

