-- ==== Sys2Proof/Machine/Conditions.lean ====
section
/-! DEFINITION. The verdict arithmetic (07) and the zone condition unit (08): what a night's outcome does to its zone. -/

namespace Sys2Proof.Machine

open Sys2Proof

/-- The exceed threshold T = max(Tfloor, floor(k × S / 4)) (R112). -/
def threshold (x : ZoneSettings) (spread : Int) : Int :=
  max x.tfloor.toInt (((x.multiplier.toNat : Int) * spread).fdiv 4)

/-- The verdict of a JUDGED night with corrected flow c (R113). -/
def Zone.verdict (z : Zone) (x : ZoneSettings) (c : Int) : NightOutcome :=
  if z.kept = .settling then .settling
  else if x.tburst.toInt ≤ c - z.baseline then .burst
  else if threshold x z.spread < c - z.baseline then .exceed
  else .normal

/-- A value held between 0 and 2^31 − 1 (R121). -/
def clampFlow (x : Int) : Int := max 0 (min Config.flowMax x)

/-- The difference of an update (R117). -/
def difference (c b : Int) : Int := ((c - b).natAbs : Int)

/-- The settling update (R118) and the end of settling (R119). -/
def Zone.settlingUpdate (z : Zone) (x : ZoneSettings) (c : Int) : Zone :=
  let n := z.settling + 1
  let b := if n = 1 then c else z.baseline + (c - z.baseline).tdiv n
  let sp := if n = 1 then 0 else z.spread + (difference c z.baseline - z.spread).tdiv n
  { z with
    settling := n
    baseline := clampFlow b
    spread := clampFlow sp
    kept := if x.nSettle.toNat ≤ n then .clear else z.kept }

/-- The shifted update (R120). -/
def Zone.shiftedUpdate (z : Zone) (x : ZoneSettings) (c : Int) : Zone :=
  let d : Int := ((2 ^ x.shift.toNat : Nat) : Int)
  { z with
    baseline := clampFlow (z.baseline + (c - z.baseline).fdiv d)
    spread := clampFlow (z.spread + (difference c z.baseline - z.spread).fdiv d) }

/-- The update that the verdict and the condition call for (R116). -/
def Zone.learn (z : Zone) (x : ZoneSettings) (v : NightOutcome) (c : Int) : Zone :=
  match v with
  | .settling => z.settlingUpdate x c
  | .normal =>
    match z.kept with
    | .clear | .watch | .suspect | .burst => z.shiftedUpdate x c
    | .unconfigured | .settling | .confirmed | .fault => z
  | .exceed | .burst | .balance | .incomplete | .held => z

/-- The most entries a history holds (R126). -/
def historyMax : Nat := 8

/-- A history entry is added at the front; entries at or above its night are removed first, and the oldest leaves when
the list would hold more than 8 (R126). -/
def Zone.addHistory (z : Zone) (h : HistoryEntry) : Zone :=
  { z with history := (h :: z.history.filter fun e => e.night < h.night).take historyMax }

/-- run after a night's outcome (R128). -/
def runAfter (run : Nat) : NightOutcome → Nat
  | .normal => min 7 (run + 1)
  | .exceed | .burst => 0
  | .settling | .balance | .incomplete | .held => run

/-- Verdict nights are NORMAL, EXCEED or BURST (R126). -/
def NightOutcome.isVerdict : NightOutcome → Bool
  | .normal | .exceed | .burst => true
  | .settling | .balance | .incomplete | .held => false

/-- High nights are EXCEED or BURST (R129). -/
def NightOutcome.isHigh : NightOutcome → Bool
  | .exceed | .burst => true
  | .settling | .normal | .balance | .incomplete | .held => false

/-- X, the high nights among the newest M verdict nights of the history (R129). -/
def highNights (history : List HistoryEntry) (m : Nat) : Nat :=
  ((history.filter fun e => e.outcome.isVerdict).take m).countP fun e => e.outcome.isHigh

/-- The K-of-M test (R129). -/
def Zone.persists (z : Zone) (x : ZoneSettings) : Bool :=
  x.kNights.toNat ≤ highNights z.history x.mNights.toNat

/-- Entry into suspicion (R133). -/
def Zone.enterSuspicion (z : Zone) (x : ZoneSettings) : Zone × Option FindingKind :=
  let e := min 15 (z.episodes + 1)
  if x.lLatch != 0 && x.lLatch.toNat ≤ e then
    ({ z with episodes := e, kept := .confirmed }, some .confirmed)
  else ({ z with episodes := e, kept := .suspect }, some .suspect)

/-- An EXCEED verdict moves the condition (R130). -/
def Zone.onExceed (z : Zone) (x : ZoneSettings) : Zone × Option FindingKind :=
  match z.kept with
  | .clear =>
    if z.persists x then z.enterSuspicion x else ({ z with kept := .watch }, some .watch)
  | .watch => if z.persists x then z.enterSuspicion x else (z, none)
  | .burst => z.enterSuspicion x
  | .unconfigured | .settling | .suspect | .confirmed | .fault => (z, none)

/-- A BURST verdict moves the condition (R131). -/
def Zone.onBurst (z : Zone) : Zone × Option FindingKind :=
  match z.kept with
  | .clear | .watch | .suspect | .burst => ({ z with kept := .burst }, some .burst)
  | .confirmed => (z, some .burst)
  | .unconfigured | .settling | .fault => (z, none)

/-- A NORMAL verdict moves the condition (R132). -/
def Zone.onNormal (z : Zone) (x : ZoneSettings) : Zone × Option FindingKind :=
  match z.kept with
  | .watch | .suspect | .burst =>
    if x.rClear.toNat ≤ z.run then ({ z with kept := .clear }, some .cleared) else (z, none)
  | .unconfigured | .settling | .clear | .confirmed | .fault => (z, none)

/-- Step 4 of R127 for a verdict. -/
def Zone.move (z : Zone) (x : ZoneSettings) (v : NightOutcome) : Zone × Option FindingKind :=
  match v with
  | .normal => z.onNormal x
  | .exceed => z.onExceed x
  | .burst => z.onBurst
  | .settling | .balance | .incomplete | .held => (z, none)

/-- A finding that carries a night's C and E (R143). -/
def figureFinding (kind : FindingKind) (zid : ZoneId) (night : Nat) (c e : Int) : Finding :=
  { kind := kind, subject := .zone zid, night := some night, figures := some (c, e), mnf := none }

/-- A JUDGED outcome worked in the order of R114 and R127. The findings are in the order in which they are made: SETTLED
at the end of settling (R119), then at most one of step 4. -/
def Zone.workJudged (z : Zone) (x : ZoneSettings) (zid : ZoneId) (night : Nat) (mnf c : Int) (uncorrected : Bool) :
    Zone × List Finding :=
  let e := c - z.baseline
  let v := z.verdict x c
  let learnt := z.learn x v c
  let settled := if v = .settling && learnt.kept = .clear then [figureFinding .settled zid night c e] else []
  let recorded := learnt.addHistory
    { night := night, outcome := v, corrected := some c, excess := some e, mnf := some mnf, uncorrected := uncorrected }
  let counted := { recorded with run := runAfter recorded.run v }
  let moved := counted.move x v
  (moved.1, settled ++ match moved.2 with | none => [] | some k => [figureFinding k zid night c e])

/-- An outcome without a verdict is recorded (R126) and leaves run and condition as they are (R128, R134). -/
def Zone.workPlain (z : Zone) (night : Nat) (outcome : NightOutcome) (mnf : Option Int) : Zone :=
  z.addHistory
    { night := night, outcome := outcome, corrected := none, excess := none, mnf := mnf, uncorrected := false }

/-- What the zone condition unit does with a night's outcome (R127, R134). -/
def Zone.work (z : Zone) (x : ZoneSettings) (zid : ZoneId) (night : Nat) : NightClass → Zone × List Finding
  | .held => (z.workPlain night .held none, [])
  | .membershipChanged => (z.workPlain night .incomplete none, [])
  | .short _ => (z.workPlain night .incomplete none, [])
  | .ended => (z.workPlain night .incomplete none, [])
  | .balance _ mnf _ =>
    (z.workPlain night .balance (some mnf),
      [{ kind := .balance, subject := .zone zid, night := some night, figures := none, mnf := some mnf }])
  | .judged _ mnf _ answer _ c => z.workJudged x zid night mnf c answer.uncorrected

/-- The outcome of a night is handed to the zone condition unit: its work, then its findings in order (R106 step 1). -/
def State.handOutcome (s : State) (zid : ZoneId) (x : ZoneSettings) (night : Nat) (cls : NightClass) : State :=
  let done := (s.zone zid).work x zid night cls
  (s.putZone zid done.1).offerAll done.2

/-- The last close record is written (R107). -/
def State.writeClose (s : State) (zid : ZoneId) (night : Nat) (cls : NightClass) : State :=
  s.modZone zid fun z => { z with lastClose := some { night := night, cls := cls } }

/-- WATCH becomes CLEAR and run becomes 0, at ENTER-SETUP and RESTART (R146). -/
def Zone.calm (z : Zone) : Zone :=
  { z with kept := if z.kept = .watch then .clear else z.kept, run := 0 }

end Sys2Proof.Machine
end

