-- ==== Sys2Proof/Machine/Commit.lean ====
section
/-! DEFINITION. The stage (02, 2.4): writing a pending binding, the validation of a commit, and its application. -/

namespace Sys2Proof.Machine

open Sys2Proof

/-- The most pending bindings the stage holds (R24). -/
def stageMax : Nat := 8

/-- The stage holds a pending binding for the slot. -/
def Stage.holds (g : Stage) (m : SlotId) : Bool := g.bindings.any fun p => p.slot = m

/-- A pending binding joins the list in ascending slot order. -/
def insertPending (p : PendingBinding) : List PendingBinding → List PendingBinding
  | [] => [p]
  | q :: rest => if p.slot < q.slot then p :: q :: rest else q :: insertPending p rest

/-- The binding is written into the stage, replacing one held for the same slot (R25). -/
def Stage.write (g : Stage) (p : PendingBinding) : Stage :=
  { g with bindings := insertPending p (g.bindings.filter fun q => q.slot != p.slot) }

/-- The stage emptied, with both marks clear. -/
def Stage.emptied (_ : Stage) : Stage := { bindings := [], commitPending := false, due := false }

/-! ## Application -/

/-- A pending binding applied to its slot, by the table of R30; every row computes a new code and ends the fault. -/
def MeterSlot.apply (m : MeterSlot) (b : MeterBinding) : MeterSlot :=
  let written := { m with binding := b, code := bindingCode b, mark := false }
  let afresh := { written with state := .awaiting, lastPoint := none, doubt := 0 }
  if b.source = 0 then
    match m.state with
    | .unbound => written
    | .awaiting | .live | .doubtful | .faulted => { written with state := .unbound, lastPoint := none, doubt := 0 }
  else
    match m.state with
    | .awaiting | .live | .doubtful => if m.binding.tag = b.tag && sameSource m.binding b then written else afresh
    | .unbound | .faulted => afresh

/-- The commit changed the slot's tag or source (R31). -/
def State.rebound (s old : State) (m : SlotId) : Bool :=
  let a := (s.meter m).binding
  let b := (old.meter m).binding
  a.tag != b.tag || !(sameSource a b || (a.source = b.source && a.channel = b.channel))

/-- The zone's member set changes with the commit that led from `old` to `s` (R31). -/
def State.memberSetChanged (s old : State) (z : ZoneId) : Bool :=
  s.memberSet z != old.memberSet z || (s.memberSet z).any fun p => s.rebound old p.1

/-- The member entries brought up to date (R31): a member that stays, under the same tag and source, keeps its entry;
every other member of the new set has a fresh one. -/
def State.updatedMembers (s old : State) (z : ZoneId) (r : NightRecord) : List Member :=
  (s.memberSet z).map fun p =>
    match r.members.find? fun e => e.slot = p.1 && e.dir = p.2 with
    | some e => if s.rebound old p.1 then freshMember p else e
    | none => freshMember p

/-- The effect of a commit on a zone's open record, by its state (R31). -/
def State.updatedRecord (s old : State) (z : ZoneId) (r : NightRecord) : NightRecord :=
  match r.state with
  | .waiting => { r with members := s.updatedMembers old z r }
  | .collecting | .draining => { r with members := s.updatedMembers old z r, changed := true }
  | .closing => r

/-- The pending bindings are written to their slots, all together (R30). -/
def State.writeBindings (s : State) : State :=
  s.stage.bindings.foldl (fun t p => t.modMeter p.slot (·.apply p.binding)) s

/-- The open records follow the member sets (R31). -/
def State.followMembers (s old : State) : State :=
  s.mapZones fun z x =>
    if s.memberSetChanged old z then { x with record := x.record.map (s.updatedRecord old z) } else x

/-- The stage's bindings are applied: slots, records, and the stage emptied with its marks clear (R29 to R31). -/
def State.applyCommit (s : State) : State := (s.writeBindings.followMembers s).modStage Stage.emptied

/-- The stage's part in a boundary event (R29): a pending commit is applied between intake items; while the intake holds
an item it falls due. So it is between the taking of RESTART and its acting, too (log 37). -/
def State.stageBoundary (s : State) : State :=
  if s.stage.commitPending then
    if s.intake.hand = .idle then s.applyCommit else s.modStage fun g => { g with due := true }
  else s

/-! ## Validation (R27) -/

/-- The binding a slot would have in the resulting table: its pending binding, or its present one when it is bound. -/
def State.resulting (s : State) (m : SlotId) : Option MeterBinding :=
  match s.stage.bindings.find? fun p => p.slot = m with
  | some p => if p.binding.source = 0 then none else some p.binding
  | none => if (s.meter m).bound then some (s.meter m).binding else none

/-- The slots without a pending binding that are bound, in ascending order: the entries that tests 2 to 4 read (log 18). -/
def State.unstagedBound (s : State) : List SlotId :=
  (List.finRange 128).filter fun m => (s.meter m).bound && !s.stage.holds m

/-- The number of members zone z would have in the resulting table. -/
def State.resultingMembers (s : State) (z : ZoneId) : Nat :=
  (List.finRange 128).countP fun m =>
    match s.resulting m with
    | some b => (memberships b).any fun p => p.1 = z
    | none => false

/-- The lowest other slot of the resulting table whose binding satisfies a test: the one that a failed test 3 names where
several do (R27 says only "the other slot"; the model's choice, log 19). -/
def State.otherSlot (s : State) (m : SlotId) (test : MeterBinding → Bool) : Option SlotId :=
  (List.finRange 128).find? fun k =>
    k != m &&
      match s.resulting k with
      | some b => test b
      | none => false

/-- A failed test: its number, the slot, and the kind and number of subject B (R182). -/
structure CommitFailure where
  test : Nat
  slot : SlotId
  kindB : Nat
  numberB : Nat
deriving DecidableEq, Repr

/-- Test 1 on the zones of a pending binding: each zone's entry is verified, unless faulted already; the zone must be
configured and not FAULT. A zone whose entry has just failed while the analyser holds it fails too (log 31). The zones are
taken in the order of the memberships, up to the first that fails (the model's choice, log 19). -/
def State.testZones (s : State) (m : SlotId) : List ZoneId → State × Option CommitFailure
  | [] => (s, none)
  | z :: rest =>
    let seen := s.verify (.zone z)
    if (seen.zone z).inService && !(seen.zone z).mark then seen.testZones m rest
    else (seen, some { test := 1, slot := m, kindB := 1, numberB := z.val })

/-- Test 2: no zone of the binding would have more than 12 members. Of two that would, the first membership's is named (the
model's choice, log 19). -/
def State.testMembers (s : State) (m : SlotId) (zs : List ZoneId) : Option CommitFailure :=
  (zs.find? fun z => 12 < s.resultingMembers z).map fun z => { test := 2, slot := m, kindB := 1, numberB := z.val }

/-- Test 3: the tag is held by no other bound slot. -/
def State.testTag (s : State) (p : PendingBinding) : Option CommitFailure :=
  (s.otherSlot p.slot fun b => b.tag = p.binding.tag).map fun k =>
    { test := 3, slot := p.slot, kindB := 2, numberB := k.val }

/-- Test 4: a PULSE binding's channel is held by no other bound slot and is in COUNT mode. Subject B is the channel
(log 19). -/
def State.testChannel (s : State) (p : PendingBinding) : Option CommitFailure :=
  if isPulse p.binding then
    match chanOf p.binding.channel with
    | none => some { test := 4, slot := p.slot, kindB := 3, numberB := p.binding.channel.toNat }
    | some c =>
      if (s.otherSlot p.slot fun b => isPulse b && b.channel = p.binding.channel).isSome ||
          (s.channel c).mode != .count then
        some { test := 4, slot := p.slot, kindB := 3, numberB := c.val }
      else none
  else none

/-- The tests of one pending binding, in order; NONE passes every test (R27). -/
def State.testPending (s : State) (p : PendingBinding) : State × Option CommitFailure :=
  if p.binding.source = 0 then (s, none)
  else
    let zs := (memberships p.binding).map Prod.fst
    let first := s.testZones p.slot zs
    match first.2 with
    | some f => (first.1, some f)
    | none =>
      let seen := first.1.verifyAll (first.1.unstagedBound.map .meter)
      (seen, (seen.testMembers p.slot zs).or ((seen.testTag p).or (seen.testChannel p)))

/-- The pending bindings are tested in ascending slot order; the first failure ends the validation (R27). -/
def State.validate (s : State) : List PendingBinding → State × Option CommitFailure
  | [] => (s, none)
  | p :: rest =>
    let r := s.testPending p
    match r.2 with
    | some f => (r.1, some f)
    | none => r.1.validate rest

end Sys2Proof.Machine
end

