-- ==== Sys2Proof/Machine/Requests.lean ====
section
/-! DEFINITION. The link controller (12): the input queue, the request in hand, replies and refusals, the receiver; and
`State.request`, through which every request row runs. -/

namespace Sys2Proof.Machine

open Sys2Proof

/-- The code of a status (R181). -/
def Status.code : Status → Byte
  | .ok => 0x00
  | .accepted => 0x01
  | .unknownKind => 0x10
  | .badLength => 0x11
  | .range => 0x12
  | .wrongState => 0x13
  | .noSuch => 0x14
  | .tagMismatch => 0x15
  | .source => 0x16
  | .order => 0x17
  | .conflict => 0x18
  | .tooNew => 0x19
  | .late => 0x1A
  | .stageFull => 0x1B
  | .stageLocked => 0x1C
  | .invalid => 0x1D
  | .busy => 0x1E
  | .clockFar => 0x1F
  | .faulted => 0x20

/-- The flags byte of a reply: bit 0 DROPPED, bit 1 ATTN (R176, R180). -/
def Reply.flags (r : Reply) : Byte := (if r.dropped then 0x01 else 0) ||| (if r.attn then 0x02 else 0)

/-- The bytes of a reply that the CRC covers: length to the end of the body (R176). -/
def Reply.covered (r : Reply) : List Byte :=
  BitVec.ofNat 8 (r.body.length + 4) :: r.tag :: r.kind :: r.status.code :: r.flags :: r.body

/-- The bytes of a reply on the line (R176). -/
def Reply.wire (r : Reply) : List Byte := 0xC3 :: (r.covered ++ be16 (crc16 r.covered))

/-- The refusal detail of R182: item, then kind and number of subjects A and B. -/
def refusalDetail (item kindA numberA kindB numberB : Nat) : List Byte :=
  enc8 item ++ enc8 kindA ++ enc8 numberA ++ enc8 kindB ++ enc8 numberB

/-- A refusal detail that names only an item. -/
def itemDetail (item : Nat) : List Byte := refusalDetail item 0 0 0 0

/-- The owner of the request in hand is at work on it. -/
def State.setWorking (s : State) : State :=
  s.modLink fun l => { l with hand := l.hand.map fun h => { h with phase := .working } }

/-- The reply to the request in hand is formed (R178, R180): it carries the dropped mark, which is cleared, and the ATTN
line as it stands now. While the RESET pin is low no reply is sent (log 23). -/
def State.answer (s : State) (st : Status) (body : List Byte) : State :=
  match s.link.hand with
  | none => s
  | some h =>
    if s.link.resetLow then s.modLink fun l => { l with hand := none }
    else
      let r : Reply := { tag := h.frame.tag, kind := h.frame.kind ||| 0x80, status := st, dropped := s.link.dropped,
                         attn := s.attnLine, body := body }
      s.modLink fun l => { l with hand := some { h with phase := .sending r }, dropped := false }

/-- A refusal that names an item and no subjects (R182). -/
def State.refuse (s : State) (st : Status) (item : Nat) : State := s.answer st (itemDetail item)

/-- The most frames the input queue holds (R178). -/
def inputMax : Nat := 2

/-- A complete frame is offered to the input queue, or discarded with the dropped mark set (R178). -/
def State.offerFrame (s : State) (f : Frame) : State :=
  s.modLink fun l => if l.queue.length < inputMax then { l with queue := l.queue ++ [f] } else { l with dropped := true }

/-- With no request in hand, the oldest frame of the queue is taken as the request in hand (R179); a body length that does
not match the kind is answered BAD-LENGTH at once (log 10). -/
def State.takeFrame (s : State) : State :=
  match s.link.hand, s.link.queue with
  | none, f :: rest =>
    let taken := s.modLink fun l => { l with hand := some { frame := f, phase := .waiting }, queue := rest }
    if decodeRequest f = none then taken.refuse .badLength 0 else taken
  | _, _ => s

/-- The last byte of the reply has been sent (R179). -/
def State.replySent (s : State) : State :=
  match s.link.hand with
  | some h =>
    match h.phase with
    | .sending _ => (s.modLink fun l => { l with hand := none }).takeFrame
    | .waiting | .working => s
  | none => s

/-- A request row (R179, log 9). When its frame is the request in hand and waits for its owner, the owner takes it. When
the link holds no request, the row stands for its frame's arrival too, and the owner takes it at once. Otherwise the
frame arrives and joins the input queue or is discarded (R178). While the RESET pin is low nothing is received (R188). -/
def State.request (c : Instr) (act : State → State) (s : State) : State :=
  if s.link.resetLow then s
  else
    match encodeRequest c with
    | none => s
    | some f =>
      match s.link.hand with
      | none => act (s.modLink fun l => { l with hand := some { frame := f, phase := .waiting } })
      | some h => if h = { frame := f, phase := .waiting } then act s else s.offerFrame f

/-- The frame that the bytes after a start byte spell, when they are complete and their CRC holds (R176, R177). -/
def frameOfBytes (bytes : List Byte) : Option Frame :=
  match bytes with
  | len :: tag :: kind :: rest =>
    let body := rest.take (len.toNat - 2)
    if rest.drop (len.toNat - 2) = be16 (crc16 (len :: tag :: kind :: body)) then
      some { tag := tag, kind := kind, body := body }
    else none
  | _ => none

/-- The receiver's table (R177): the next state of the receiver, and a frame when one is complete. -/
def Receiver.receive (r : Receiver) (e : RxEvent) : Receiver × Option Frame :=
  match r, e with
  | .hunting, .byte b => (if b = 0xC3 then .inFrame [] else .hunting, none)
  | .hunting, .framingError => (.hunting, none)
  | .inFrame _, .framingError => (.hunting, none)
  | .inFrame [], .byte b => (if 2 ≤ b.toNat && b.toNat ≤ 240 then .inFrame [b] else .hunting, none)
  | .inFrame (len :: rest), .byte b =>
    let bytes := len :: rest ++ [b]
    if bytes.length = len.toNat + 3 then (.hunting, frameOfBytes bytes) else (.inFrame bytes, none)

/-- A byte or a framing error on RXD (R177 to R179); ignored while the RESET pin is low (R188). -/
def State.receive (s : State) (e : RxEvent) : State :=
  if s.link.resetLow then s
  else
    let r := s.link.rx.receive e
    let moved := s.modLink fun l => { l with rx := r.1 }
    match r.2 with
    | none => moved
    | some f => (moved.offerFrame f).takeFrame

/-- The frame of the request in hand when it waits for its owner. -/
def Link.waitingFrame (l : Link) : Option Frame :=
  match l.hand with
  | some h => if h.phase = .waiting then some h.frame else none
  | none => none

/-- The link has waiting work at the intake: a READING or READING-BATCH handed over and not yet taken (R53). -/
def Link.hasReading (l : Link) : Bool :=
  match l.waitingFrame with
  | some f => f.kind = 0x40 || f.kind = 0x41
  | none => false

end Sys2Proof.Machine
end

