-- ==== Sys2Proof/Machine/Replies.lean ====
section
/-! DEFINITION. The bodies of replies, byte by byte: the fields that each owning rule lists, in its order, encoded as R184
lays down. Where a rule's fields nest or are optional, the form chosen is in log 16. -/

namespace Sys2Proof.Machine

open Sys2Proof

/-! ## Names as their positions in the lists of their rules (R184) -/

/-- 0 SETUP, 1 STARTING, 2 RUN (R187). -/
def Mode.code : Mode → Nat
  | .setup => 0
  | .starting => 1
  | .run => 2

/-- 0 UNBOUND, 1 AWAITING, 2 LIVE, 3 DOUBTFUL, 4 FAULTED (R186). -/
def SlotState.code : SlotState → Nat
  | .unbound => 0
  | .awaiting => 1
  | .live => 2
  | .doubtful => 3
  | .faulted => 4

/-- The order of R125. -/
def Condition.code : Condition → Nat
  | .unconfigured => 0
  | .settling => 1
  | .clear => 2
  | .watch => 3
  | .suspect => 4
  | .burst => 5
  | .confirmed => 6
  | .fault => 7

/-- The order of R23. -/
def RecordState.code : RecordState → Nat
  | .waiting => 0
  | .collecting => 1
  | .draining => 2
  | .closing => 3

/-- The order of R126. -/
def NightOutcome.code : NightOutcome → Nat
  | .settling => 0
  | .normal => 1
  | .exceed => 2
  | .burst => 3
  | .balance => 4
  | .incomplete => 5
  | .held => 6

/-- 0 OFF, 1 COUNT, 2 STATUS (R183). -/
def ChanMode.code : ChanMode → Nat
  | .off => 0
  | .count => 1
  | .status => 2

/-- The order of R36. -/
def ChanState.code : ChanState → Nat
  | .off => 0
  | .status => 1
  | .counting => 2
  | .gatePending => 3
  | .gated => 4
  | .releaseWait => 5

/-- 0 IN, 1 OUT (R185). -/
def Dir.code : Dir → Nat
  | .inward => 0
  | .outward => 1

/-- 0 FIRST to 6 DOUBTFUL (R186). -/
def PairOutcome.code : PairOutcome → Nat
  | .first => 0
  | .applied => 1
  | .duplicate => 2
  | .late => 3
  | .withheld => 4
  | .implausible => 5
  | .doubtful => 6

/-- 0 SETTLED to 8 ENTRY-FAULT (R186). -/
def FindingKind.code : FindingKind → Nat
  | .settled => 0
  | .watch => 1
  | .suspect => 2
  | .burst => 3
  | .confirmed => 4
  | .cleared => 5
  | .balance => 6
  | .meterDoubt => 7
  | .entryFault => 8

/-- 0 REQUEST, 1 START-UP (R187). -/
def PassOrigin.code : PassOrigin → Nat
  | .request => 0
  | .startUp => 1

/-- ASSERTED is the first name of the list in 3.1 and R38 (log 16). -/
def encLevel (asserted : Bool) : List Byte := enc8 (if asserted then 0 else 1)

/-! ## Time base and modes -/

/-- The grid in force, in SET-GRID's layout (R8, R183). -/
def gridBytes (g : Grid) : List Byte :=
  enc8 g.interval ++ enc32 g.windowStart ++ enc16 g.windowLength ++ enc16 g.closeDelay ++ enc32 g.spanLimit ++
    enc8 g.trimStep

/-- The 4-byte offset of a TIME-MARK reply: two's complement where it fits (R184), a free value where it does not
(log 17). -/
def offsetBytes (x : Int) : List Byte :=
  if -2147483648 ≤ x ∧ x ≤ 2147483647 then encS32 x else be32 (Config.offsetBeyondField x)

/-- Part time used, and the offset (R10). -/
def timeMarkBytes (now : Nat) (offset : Int) : List Byte := enc32 now ++ offsetBytes offset

/-- Check pass in flight: origin and next entry (R187). -/
def passBytes (p : CheckPass) : List Byte := enc8 p.origin.code ++ enc8 p.next.val

/-- Last pass result: origin, outcome, entries checked, mismatches (R187). -/
def passResultBytes (p : PassResult) : List Byte :=
  enc8 p.origin.code ++ encBool p.abandoned ++ enc8 p.checked ++ enc8 p.mismatches

/-- STATUS-GET's 24 bytes (R187). -/
def State.statusBytes (s : State) : List Byte :=
  enc8 s.mode.code ++ enc32 s.now ++ encS32 s.time.pendingTrim ++ enc8 s.time.standstill ++
    enc8 s.stage.bindings.length ++ encBool s.stage.commitPending ++ enc8 s.closingSet.length ++
    encOrNone (s.analyser.analysing.map fun a => a.zone.val) ++ enc8 s.faultedCount ++ enc8 s.checker.scrub.val ++
    encOption 2 (s.checker.pass.map passBytes) ++ encOption 4 (s.checker.lastPass.map passResultBytes)

/-! ## Zones and nights -/

/-- A list of (slot, direction) pairs (R23). -/
def memberSetBytes (ms : List (SlotId × Dir)) : List Byte :=
  encList (ms.map fun p => enc8 p.1.val ++ enc8 p.2.code)

/-- ZONE-GET (R23). -/
def State.zoneGetBytes (s : State) (zid : ZoneId) : List Byte :=
  let z := s.zone zid
  zoneEntryBytes z.entry ++ be16 z.code ++ enc8 z.condition.code ++ encBool z.holdFlag ++ encBool (s.holdActive zid) ++
    enc8 z.run ++ enc8 z.episodes ++ enc8 z.settling ++ encS32 z.baseline ++ encS32 z.spread ++
    encOption 3 (z.record.map fun r => enc16 r.night ++ enc8 r.state.code) ++
    memberSetBytes (s.memberSet zid) ++ encBool z.lost

/-- A history entry (R126, R142): each figure an optional field. -/
def historyBytes (h : HistoryEntry) : List Byte :=
  enc16 h.night ++ enc8 h.outcome.code ++ encOption 4 (h.corrected.map encS32) ++ encOption 4 (h.excess.map encS32) ++
    encOption 4 (h.mnf.map encS32) ++ encBool h.uncorrected

/-- HISTORY-GET (R142). -/
def Zone.historyGetBytes (z : Zone) : List Byte :=
  enc8 z.condition.code ++ enc8 z.run ++ enc8 z.episodes ++ encList (z.history.map historyBytes)

/-- A bound of the bands of BASELINE-GET, saturated to 2 147 483 647 (R122). -/
def saturateHigh (x : Int) : Int := min Config.flowMax x

/-- BASELINE-GET (R122). -/
def Zone.baselineGetBytes (z : Zone) : List Byte :=
  let x := z.entry.settings
  let t := threshold x z.spread
  enc8 z.condition.code ++ encS32 z.baseline ++ encS32 z.spread ++ enc8 z.settling ++ [x.nSettle] ++
    encBool z.settled ++ encS32 (saturateHigh t) ++ be32 x.tburst ++ encS32 (saturateHigh (z.baseline + t)) ++
    encS32 (saturateHigh (z.baseline + x.tburst.toInt))

/-- What BASELINE-PUT, CLEAR-ZONE share at the head of their replies: condition, B, S and settling count (R123, R140). -/
def Zone.baselineBytes (z : Zone) : List Byte :=
  enc8 z.condition.code ++ encS32 z.baseline ++ encS32 z.spread ++ enc8 z.settling

/-- CLEAR-ZONE (R140). -/
def Zone.clearedBytes (z : Zone) : List Byte := z.baselineBytes ++ enc8 z.run ++ enc8 z.episodes

/-- HOLD-ZONE (R138): the flag, and whether the hold is active. -/
def State.holdBytes (s : State) (zid : ZoneId) : List Byte :=
  encBool (s.zone zid).holdFlag ++ encBool (s.holdActive zid)

/-- 0 HELD, 1 INCOMPLETE, 2 BALANCE, 3 JUDGED (R98, R107). -/
def NightClass.code : NightClass → Nat
  | .held => 0
  | .membershipChanged => 1
  | .short _ => 1
  | .ended => 1
  | .balance _ _ _ => 2
  | .judged _ _ _ _ _ _ => 3

/-- 0 MEMBERSHIP-CHANGED, 1 SHORT, 2 ENDED (R107). -/
def NightClass.reason : NightClass → Option Nat
  | .membershipChanged => some 0
  | .short _ => some 1
  | .ended => some 2
  | .held => none
  | .balance _ _ _ => none
  | .judged _ _ _ _ _ _ => none

/-- The number of complete bins, for SHORT, BALANCE and JUDGED (R107). -/
def NightClass.complete : NightClass → Option Nat
  | .short n => some n
  | .balance n _ _ => some n
  | .judged n _ _ _ _ _ => some n
  | .held => none
  | .membershipChanged => none
  | .ended => none

/-- MNF and start bin, for BALANCE and JUDGED (R107). -/
def NightClass.flow : NightClass → Option (Int × Nat)
  | .balance _ mnf start => some (mnf, start)
  | .judged _ mnf start _ _ _ => some (mnf, start)
  | .held => none
  | .membershipChanged => none
  | .short _ => none
  | .ended => none

/-- The pressure answer, f and C, for JUDGED (R107). -/
def NightClass.judgement : NightClass → Option (PressureAnswer × Nat × Int)
  | .judged _ _ _ p f c => some (p, f, c)
  | .held => none
  | .membershipChanged => none
  | .short _ => none
  | .ended => none
  | .balance _ _ _ => none

/-- Pavg, ρq, i and r of a corrected night (R107). -/
def PressureAnswer.figures : PressureAnswer → Option (List Byte)
  | .corrected pavg ratio index fraction => some (enc16 pavg ++ enc32 ratio ++ enc8 index ++ enc32 fraction)
  | .switchOff => none
  | .fewSamples => none

/-- 0 SWITCH-OFF, 1 FEW-SAMPLES (R102). -/
def PressureAnswer.reason : PressureAnswer → Option Nat
  | .corrected _ _ _ _ => none
  | .switchOff => some 0
  | .fewSamples => some 1

/-- A last close record (R107): each field not present for every class is an optional field; 35 bytes. -/
def closeBytes (c : CloseRecord) : List Byte :=
  enc16 c.night ++ enc8 c.cls.code ++ encOption 1 (c.cls.reason.map enc8) ++ encOption 1 (c.cls.complete.map enc8) ++
    encOption 5 (c.cls.flow.map fun p => encS32 p.1 ++ enc8 p.2) ++
    encOption 11 (c.cls.judgement.bind fun j => j.1.figures) ++
    encOption 1 ((c.cls.judgement.bind fun j => j.1.reason).map enc8) ++
    encOption 2 (c.cls.judgement.map fun j => enc16 j.2.1) ++
    encOption 4 (c.cls.judgement.map fun j => encS32 j.2.2)

/-- A set of bins, bit k for bin k (R184). -/
def binSet (bins : List Nat) : W32 := bins.foldl (fun m k => m ||| binBit k) 0

/-- A member entry of an open record: slot, direction, reach, gap set (R108). -/
def memberBytes (e : Member) : List Byte :=
  enc8 e.slot.val ++ enc8 e.dir.code ++ encOption 4 (e.reach.map enc32) ++ be32 e.gaps

/-- The members' slots that are FAULTED now (R99). -/
def State.faultedMembers (s : State) (r : NightRecord) : List SlotId :=
  (r.members.map (·.slot)).filter fun m => (s.meter m).state = .faulted

/-- An open record in SUMMARY (R108). -/
def State.openNightBytes (s : State) (zid : ZoneId) (r : NightRecord) : List Byte :=
  let g := s.grid
  let taken := match s.analyser.analysing with
    | some a => a.zone = zid
    | none => false
  enc16 r.night ++ enc8 r.state.code ++ enc32 (g.ws r.night) ++ enc32 (g.we r.night) ++ enc32 (g.deadline r.night) ++
    enc8 g.binCount ++ encBool r.held ++ encBool r.changed ++
    be32 (binSet (g.completeBins r (s.faultedMembers r))) ++ encList (r.members.map memberBytes) ++
    encOption 1 (if r.state = .closing then some (encBool taken) else none)

/-- NIGHT-GET SUMMARY (R108): the last close record, then the open record or the indication "no open night". -/
def State.summaryBytes (s : State) (zid : ZoneId) : List Byte :=
  encOption 35 ((s.zone zid).lastClose.map closeBytes) ++
    match (s.zone zid).record with
    | none => [0]
    | some r => 1 :: s.openNightBytes zid r

/-- Bins first to first + 15 of a record, stopping at its last (R108). -/
def NightRecord.binsFrom (r : NightRecord) (first : Nat) : List Bin := (r.bins.drop first).take 16

/-- NIGHT-GET VOLUMES of an open record (R108). -/
def NightRecord.volumesBytes (r : NightRecord) (first : Nat) : List Byte :=
  1 :: encList ((r.binsFrom first).map fun b => encS64 b.volume)

/-- NIGHT-GET PRESSURE of an open record: counts and sums, bin by bin, the count before the sum (R108; the order is the
model's choice, log 16). -/
def NightRecord.pressureBytes (r : NightRecord) (first : Nat) : List Byte :=
  1 :: encList ((r.binsFrom first).map fun b => enc8 b.pressureCount ++ enc32 b.pressureSum)

/-- "No open night" and no bins (R108). -/
def noOpenNight : List Byte := [0, 0]

/-! ## Meters and channels -/

/-- A point as an optional field (R186). -/
def pointBytes (p : Option Point) : List Byte := encOption 8 (p.map fun x => enc32 x.time ++ be32 x.value)

/-- METER-GET (R33): an UNBOUND slot is answered with the cleared binding. The digits are present for source REMOTE and
absent for PULSE and NONE (2.1). -/
def State.meterGetBytes (s : State) (mid : SlotId) : List Byte :=
  let m := s.meter mid
  let b := if m.bound then m.binding else clearedBinding
  enc8 m.state.code ++ be32 b.tag ++ [b.source, b.channel] ++ be32 b.volume ++
    encOption 1 (if isRemote b then some [b.digits] else none) ++ be32 b.qmax ++
    encList (([[b.zone1, b.dir1], [b.zone2, b.dir2]]).take b.count.toNat) ++
    be16 m.code ++ pointBytes m.lastPoint ++ enc8 m.doubt ++ encBool (s.stage.holds mid) ++ encBool m.lost

/-- A gate record as an optional field (R51). -/
def gateRecordBytes (g : Option (Nat × W32)) : List Byte := encOption 8 (g.map fun p => enc32 p.1 ++ be32 p.2)

/-- A capture record: its kind and its fields (R43, R44, R51). No rule lists the three kinds together, and 0 PULSE, 1 BOUNDARY,
2 RESUME, the order in which R43 and then R44 name them, is the model's choice (log 16). -/
def captureBytes : Capture → List Byte
  | .pulse t c => enc8 0 ++ enc32 t ++ be32 c
  | .boundary t c => enc8 1 ++ enc32 t ++ be32 c
  | .resume g cg r cr => enc8 2 ++ enc32 g ++ be32 cg ++ enc32 r ++ be32 cr

/-- CHANNEL-GET (R51). Whether the gate line is asserted is told of a channel in any mode, by the line it names (the model's
choice for the channels outside COUNT mode, log 38). -/
def State.channelGetBytes (s : State) (x : ChanId) : List Byte :=
  let c := s.channel x
  enc8 c.mode.code ++ enc8 c.divider ++ encOrNone (c.gateLine.map Fin.val) ++ encBool c.boundaryTiming ++
    encBool c.manualRestart ++ enc8 c.state.code ++ be32 c.tally ++ enc8 c.phase ++ encLevel c.asserted ++
    encBool c.softGate ++ encBool (s.lineAsserted c.gateLine) ++ gateRecordBytes c.gateRecord ++
    encList (c.list.map captureBytes) ++ encBool c.overflow

/-- SET-CHANNEL's reply: the channel's state (R49). -/
def Channel.stateBytes (c : Channel) : List Byte := enc8 c.state.code

/-- GATE-CHANNEL's reply: the state and the software gate flag (R50). -/
def Channel.gateBytes (c : Channel) : List Byte := enc8 c.state.code ++ encBool c.softGate

/-! ## Readings, pressure, findings, attention, entries -/

/-- The body of a READING or READING-BATCH reply after any refusal detail (R186): pairs taken, outcomes, and the slot's
state, doubt count and last point. A slot that is not bound, or a slot number above 127, is answered with state 0, doubt
count 0 and no point (R186; the 0 of the doubt count is the model's choice, log 16). -/
def State.readingBytes (s : State) (slot : Byte) (outcomes : List PairOutcome) : List Byte :=
  enc8 outcomes.length ++ outcomes.flatMap (fun o => enc8 o.code) ++
    match slotOf slot with
    | none => enc8 0 ++ enc8 0 ++ pointBytes none
    | some m =>
      if (s.meter m).bound then enc8 (s.meter m).state.code ++ enc8 (s.meter m).doubt ++ pointBytes (s.meter m).lastPoint
      else enc8 0 ++ enc8 0 ++ pointBytes none

/-- PRESSURE ADDED (0): night, bin, the bin's count, the value added (R84). -/
def addedBytes (night k count value : Nat) : List Byte := enc8 0 ++ enc16 night ++ enc8 k ++ enc8 count ++ enc16 value

/-- PRESSURE FULL (1): night, bin and the bin's count (R84); the field it does not have is left out (log 16). -/
def fullBytes (night k count : Nat) : List Byte := enc8 1 ++ enc16 night ++ enc8 k ++ enc8 count

/-- PRESSURE IGNORED (2) (R84); the fields it does not have are left out (log 16). -/
def ignoredBytes : List Byte := enc8 2

/-- The table in force, entries 0 to 16 (R87). -/
def tableBytes (t : Vector W16 17) : List Byte := t.toList.flatMap be16

/-- A subject's kind and number (R186). -/
def subjectBytes : Subject → List Byte
  | .zone z => enc8 1 ++ enc8 z.val
  | .meter m => enc8 2 ++ enc8 m.val

/-- The presence byte of a finding record (R186). -/
def Finding.presence (f : Finding) : Nat :=
  (if f.night.isSome then 1 else 0) + (if f.figures.isSome then 2 else 0) + (if f.mnf.isSome then 4 else 0)

/-- A finding record, 18 bytes; an absent field is 0 (R186). -/
def findingBytes (f : Finding) : List Byte :=
  enc8 f.kind.code ++ subjectBytes f.subject ++ enc8 f.presence ++ enc16 (f.night.getD 0) ++
    encS32 ((f.figures.map Prod.fst).getD 0) ++ encS32 ((f.figures.map Prod.snd).getD 0) ++ encS32 (f.mnf.getD 0)

/-- FINDINGS-TAKE: records returned, records left, then the records, oldest first (R186). -/
def findingsBytes (taken left : List Finding) : List Byte :=
  enc8 taken.length ++ enc8 left.length ++ taken.flatMap findingBytes

/-- The raw set, the latched set and the enable mask (R171 to R173). -/
def State.attnBytes (s : State) : List Byte := [s.rawSet, s.attn.latched, s.attn.mask]

/-- ENTRY-RAW of an entry: stored bytes, stored code, recomputed code, match, fault mark (R156, R185). -/
def State.entryRawBytes (s : State) (e : Subject) : List Byte :=
  (match e with
   | .zone z => zoneEntryBytes (s.zone z).entry ++ be16 (s.zone z).code ++ be16 (zoneCode (s.zone z).entry)
   | .meter m => bindingBytes (s.meter m).binding ++ be16 (s.meter m).code ++ be16 (bindingCode (s.meter m).binding)) ++
    encBool (s.entryMatches e) ++ encBool (s.entryMark e)

end Sys2Proof.Machine
end

