-- ==== Sys2Proof/Machine/AttentionRows.lean ====
section
/-! DEFINITION. The rows of the findings queue (08) and the attention unit (11): FINDINGS_TAKE, ATTN_GET, ATTN_CLEAR,
ATTN_ENABLE. -/

namespace Sys2Proof.Machine

open Sys2Proof

/-- FINDINGS-TAKE taken (R145). -/
def State.findingsTake (s : State) (n : Byte) : State :=
  if byteIn 1 6 n then
    let taken := s.findings.take n.toNat
    let left := s.findings.drop n.toNat
    (s.setFindings left).answer .ok (findingsBytes taken left)
  else s.refuse .range 0

/-- FINDINGS_TAKE (R145). -/
def execFindingsTake (ft n : Byte) (s : State) : Result :=
  .next (s.request (.findingsTake ft n) fun t => t.findingsTake n)

/-- ATTN_GET (R171). -/
def execAttnGet (ft : Byte) (s : State) : Result :=
  .next (s.request (.attnGet ft) fun t => t.answer .ok t.attnBytes)

/-- ATTN-CLEAR taken (R172). -/
def State.attnClear (s : State) (flags : Byte) : State :=
  let cleared := s.clearFlags flags
  cleared.answer .ok cleared.attnBytes

/-- ATTN_CLEAR (R172). -/
def execAttnClear (ft flags : Byte) (s : State) : Result :=
  .next (s.request (.attnClear ft flags) fun t => t.attnClear flags)

/-- ATTN-ENABLE taken (R173). -/
def State.attnEnable (s : State) (mask : Byte) : State :=
  let masked := s.modAttn fun a => { a with mask := mask }
  masked.answer .ok masked.attnBytes

/-- ATTN_ENABLE (R173). -/
def execAttnEnable (ft mask : Byte) (s : State) : Result :=
  .next (s.request (.attnEnable ft mask) fun t => t.attnEnable mask)

end Sys2Proof.Machine
end

