-- ==== Sys2Proof/Machine/Capture.lean ====
section
/-! DEFINITION. The pulse capture unit (03): capture lists, gates, pulses, and a channel's part in a boundary event. -/

namespace Sys2Proof.Machine

open Sys2Proof

/-- The most records a capture list holds (R45). -/
def captureMax : Nat := 4

/-- The list that results when a record is due (R45 to R47). A full list's newest PULSE or BOUNDARY record is replaced;
its newest RESUME record makes a PULSE or BOUNDARY record be dropped, and merges with a RESUME record. -/
def postTo (list : List Capture) (r : Capture) : List Capture :=
  if list.length < captureMax then list ++ [r]
  else
    match list.getLast?, r with
    | some (.resume g cg _ _), .resume _ _ t c => list.dropLast ++ [.resume g cg t c]
    | some (.resume _ _ _ _), _ => list
    | _, _ => list.dropLast ++ [r]

/-- A due record is posted; to a full list it sets the overflow mark (R48). -/
def Channel.post (c : Channel) (r : Capture) : Channel :=
  { c with list := postTo c.list r, overflow := c.overflow || captureMax ≤ c.list.length }

/-- A due record is posted to channel x; a replacement, drop or merge raises CAPTURE-LOST (R48). Records are posted
only in RUN (R43). -/
def State.post (s : State) (x : ChanId) (r : Capture) : State :=
  if s.mode = .run then
    let posted := s.modChannel x (·.post r)
    if captureMax ≤ (s.channel x).list.length then posted.latch flagCaptureLost else posted
  else s

/-- The channel resumes (R42, R44): in RUN a RESUME record is posted from its gate record; then the gate record goes,
the divider phase becomes 0 and the channel is COUNTING. -/
def State.resume (s : State) (x : ChanId) : State :=
  let c := s.channel x
  let posted := match c.gateRecord with
    | some (g, cg) => s.post x (.resume g cg s.now c.tally)
    | none => s
  posted.modChannel x fun c => { c with gateRecord := none, phase := 0, state := .counting }

/-- The channel becomes GATED with gate record (g, cg). -/
def Channel.gate (c : Channel) (g : Nat) (cg : W32) : Channel :=
  { c with state := .gated, gateRecord := some (g, cg) }

/-- The sources of a channel become asserted (R40). -/
def Channel.sourcesAssert (c : Channel) (now : Nat) : Channel :=
  match c.state with
  | .counting => if c.boundaryTiming then { c with state := .gatePending } else c.gate now c.tally
  | .releaseWait => { c with state := .gated }
  | .off | .status | .gatePending | .gated => c

/-- The sources of channel x clear (R41, R42). -/
def State.sourcesClear (s : State) (x : ChanId) : State :=
  match (s.channel x).state with
  | .gatePending => s.modChannel x fun c => { c with state := .counting }
  | .gated =>
    if (s.channel x).manualRestart then s.modChannel x fun c => { c with state := .releaseWait } else s.resume x
  | .off | .status | .counting | .releaseWait => s

/-- The effect on channel x of a change of its sources from `before` to their present value (R39): an event that leaves
the combined condition as it was has no effect. -/
def State.gateEdge (s : State) (x : ChanId) (before : Bool) : State :=
  if (s.channel x).mode = .count then
    if !before && s.gateAsserted x then s.modChannel x (·.sourcesAssert s.now)
    else if before && !s.gateAsserted x then s.sourcesClear x
    else s
  else s

/-- A change of channel `cause` reaches every other COUNT channel whose sources it changed since `old` (R38, R39). -/
def State.gateEdges (s old : State) (cause : ChanId) : State :=
  ((List.finRange 16).filter (· != cause)).foldl (fun t x => t.gateEdge x (old.gateAsserted x)) s

/-- The gate of a COUNT channel is evaluated afresh (R49, R52). -/
def State.gateAfresh (s : State) (x : ChanId) : State :=
  s.modChannel x fun c =>
    if s.gateAsserted x then c.gate s.now c.tally else { c with state := .counting, gateRecord := none }

/-- A pulse (R37, R43): the tally rises, wrapping; in COUNTING and GATE-PENDING the divider phase advances, and when it
reaches the divider it returns to 0 and a PULSE record is due. -/
def State.pulse (s : State) (x : ChanId) : State :=
  let counted := s.modChannel x fun c => { c with tally := c.tally + 1, edgeCounted := true }
  let c := counted.channel x
  match c.state with
  | .counting | .gatePending =>
    if c.divider ≤ c.phase + 1 then
      (counted.modChannel x fun c => { c with phase := 0 }).post x (.pulse s.now c.tally)
    else counted.modChannel x fun c => { c with phase := c.phase + 1 }
  | .off | .status | .gated | .releaseWait => counted

/-- A channel's part in a boundary event at time b (R41, R43): a COUNTING or GATE-PENDING channel posts its BOUNDARY
record in RUN; a GATE-PENDING channel then becomes GATED with gate record (b, tally). -/
def State.channelBoundary (s : State) (b : Nat) (x : ChanId) : State :=
  let c := s.channel x
  match c.state with
  | .counting => s.post x (.boundary b c.tally)
  | .gatePending => (s.post x (.boundary b c.tally)).modChannel x fun c => c.gate b c.tally
  | .off | .status | .gated | .releaseWait => s

/-- A channel at RESTART (R52, R164): list emptied, tally and divider phase 0. The gates of COUNT channels are evaluated
afresh after this. -/
def Channel.restart (c : Channel) : Channel := { c with list := [], tally := 0, phase := 0 }

/-- SET-CLOCK re-dates every gate record (R44). -/
def Channel.redate (now : Nat) (c : Channel) : Channel :=
  { c with gateRecord := c.gateRecord.map fun _ => (now, c.tally) }

/-- SET-CHANNEL writes the configuration and sets the working state by mode, except the gate of a COUNT channel, which
is evaluated afresh after this (R49). A channel written to STATUS mode keeps its divider phase, which may then lie at or
above a smaller divider written with it (log 26). -/
def Channel.configure (c : Channel) (mode : ChanMode) (divider : Nat) (gateLine : Option ChanId)
    (boundaryTiming manualRestart : Bool) : Channel :=
  let base := { c with mode := mode, divider := divider, gateLine := gateLine, boundaryTiming := boundaryTiming,
                       manualRestart := manualRestart }
  match mode with
  | .off =>
    { base with state := .off, tally := 0, phase := 0, softGate := false, gateRecord := none, asserted := false,
                conditioning := false }
  | .status =>
    if c.mode = .status then { base with state := .status }
    else { base with state := .status, asserted := false, conditioning := true, tally := 0, softGate := false,
                     gateRecord := none }
  | .count =>
    if c.mode = .count then { base with phase := 0, asserted := false }
    else { base with tally := 0, softGate := false, phase := 0, asserted := false, conditioning := false,
                     edgeCounted := false }

end Sys2Proof.Machine
end

