-- ==== Sys2Proof/Machine/ChannelRows.lean ====
section
/-! DEFINITION. The rows of the pulse capture unit (03): PIN_CHANGE, STATUS_LEVEL_CHANGE, SET_CHANNEL, CHANNEL_GET,
GATE_CHANNEL_SET, GATE_CHANNEL_RELEASE. -/

namespace Sys2Proof.Machine

open Sys2Proof

/-- A level change of a pin (R37, R38): in COUNT mode a falling edge counts when it is the first since the channel
entered COUNT or comes at least 20 ms after the previously counted one; in STATUS mode the 2 s begin again. -/
def State.pinChange (s : State) (x : ChanId) (high : Bool) (sinceEdgeMicros : Nat) : State :=
  let c := s.channel x
  if c.pinHigh = high then s
  else
    let moved := s.modChannel x fun c => { c with pinHigh := high }
    match c.mode with
    | .off => moved
    | .count =>
      if !high && (!c.edgeCounted || Config.edgeGapMicros ≤ sinceEdgeMicros) then moved.pulse x else moved
    | .status => moved.modChannel x fun c => { c with conditioning := true }

/-- PIN_CHANGE (R37): the pin of a channel takes a level, so many microseconds after the channel's previously counted
edge (log 3). A level the pin already has is no change (log 2). -/
def execPinChange (ch : ChanId) (high : Bool) (sinceEdgeMicros : Nat) (s : State) : Result :=
  .next (s.pinChange ch high sinceEdgeMicros)

/-- The 2 s of R38 expire: the status level takes the pin's level, a low pin being ASSERTED; a change reaches the
channels and zones that name this channel (R38, R39, R137). -/
def State.statusLevelChange (s : State) (x : ChanId) : State :=
  let c := s.channel x
  if c.mode = .status && c.conditioning then
    let moved := s.modChannel x fun c => { c with asserted := !c.pinHigh, conditioning := false }
    (moved.gateEdges s x).holdEdges s
  else s

/-- STATUS_LEVEL_CHANGE (R38). Without conditioning in progress the row has no effect (log 2). -/
def execStatusLevelChange (ch : ChanId) (s : State) : Result := .next (s.statusLevelChange ch)

/-- SET-CHANNEL taken (R49). -/
def State.setChannel (s : State) (ch mode divider gateLine timing restartMode : Byte) : State :=
  if s.mode = .setup then
    match chanOf ch with
    | none => s.refuse .range 0
    | some x =>
      match channelFault x mode divider gateLine timing restartMode with
      | some offset => s.refuse .range offset
      | none =>
        let written := s.modChannel x fun c =>
          c.configure (chanModeOf mode) divider.toNat (chanOf gateLine) (timing = 1) (restartMode = 1)
        let gated := if chanModeOf mode = .count then written.gateAfresh x else written
        let reached := (gated.gateEdges s x).holdEdges s
        reached.answer .ok (reached.channel x).stateBytes
  else s.refuse .wrongState 0

/-- SET_CHANNEL (R49). -/
def execSetChannel (ft ch mode divider gateLine timing restartMode : Byte) (s : State) : Result :=
  .next (s.request (.setChannel ft ch mode divider gateLine timing restartMode) fun t =>
    t.setChannel ch mode divider gateLine timing restartMode)

/-- CHANNEL-GET taken (R51, R48): the overflow mark is reported and then cleared. -/
def State.channelGet (s : State) (ch : Byte) : State :=
  match chanOf ch with
  | none => s.refuse .range 0
  | some x => (s.modChannel x fun c => { c with overflow := false }).answer .ok (s.channelGetBytes x)

/-- CHANNEL_GET (R51). -/
def execChannelGet (ft ch : Byte) (s : State) : Result :=
  .next (s.request (.channelGet ft ch) fun t => t.channelGet ch)

/-- The SET action on a COUNT channel (R50). -/
def State.gateSet (s : State) (x : ChanId) : State :=
  (s.modChannel x fun c => { c with softGate := true }).gateEdge x (s.gateAsserted x)

/-- The RELEASE action on a COUNT channel whose gate line is not asserted (R50): it ends the gate whatever the restart
setting. -/
def State.gateRelease (s : State) (x : ChanId) : State :=
  let cleared := s.modChannel x fun c => { c with softGate := false }
  match (s.channel x).state with
  | .gatePending => cleared.modChannel x fun c => { c with state := .counting }
  | .gated | .releaseWait => cleared.resume x
  | .off | .status | .counting => cleared

/-- GATE-CHANNEL taken (R50); `action` is 0 SET or 1 RELEASE (R183). -/
def State.gateChannel (s : State) (ch action : Byte) : State :=
  if s.mode = .starting then s.refuse .wrongState 0
  else
    match chanOf ch with
    | none => s.refuse .range 0
    | some x =>
      if 1 < action.toNat then s.refuse .range 1
      else if (s.channel x).mode != .count then s.refuse .wrongState 0
      else if action = 0 then
        let set := s.gateSet x
        set.answer .ok (set.channel x).gateBytes
      else if s.lineAsserted (s.channel x).gateLine then s.refuse .wrongState 0
      else
        let released := s.gateRelease x
        released.answer .ok (released.channel x).gateBytes

/-- GATE_CHANNEL_SET (R50); an action byte that is neither SET nor RELEASE stands in this row (log 11). -/
def execGateChannelSet (ft ch action : Byte) (s : State) : Result :=
  .next (s.request (.gateChannelSet ft ch action) fun t => t.gateChannel ch action)

/-- GATE_CHANNEL_RELEASE (R50). -/
def execGateChannelRelease (ft ch : Byte) (s : State) : Result :=
  .next (s.request (.gateChannelRelease ft ch) fun t => t.gateChannel ch 1)

end Sys2Proof.Machine
end

