-- ==== Sys2Proof/Machine/CheckerRows.lean ====
section
/-! DEFINITION. The rows of the entry checker (09): ENTRY_RAW, CHECK_PASS, CHECK_PASS_VERIFY with the entry to RUN that
ends STARTING (10 R163). -/

namespace Sys2Proof.Machine

open Sys2Proof

/-- ENTRY-RAW taken (R156); `kind` is 0 ZONE or 1 METER (R183). -/
def State.entryRaw (s : State) (kind number : Byte) : State :=
  if kind = 0 then
    match zoneOf number with
    | none => s.refuse .range 1
    | some z => s.answer .ok (s.entryRawBytes (.zone z))
  else if kind = 1 then
    match slotOf number with
    | none => s.refuse .range 1
    | some m => s.answer .ok (s.entryRawBytes (.meter m))
  else s.refuse .range 0

/-- ENTRY_RAW (R156). -/
def execEntryRaw (ft kind number : Byte) (s : State) : Result :=
  .next (s.request (.entryRaw ft kind number) fun t => t.entryRaw kind number)

/-- CHECK-PASS taken (R154). -/
def State.checkPass (s : State) : State :=
  if s.checker.pass.isSome then s.refuse .busy 0
  else
    (s.modChecker fun c => { c with pass := some { origin := .request, next := 0, mismatches := 0 } }).answer .accepted []

/-- CHECK_PASS (R154). -/
def execCheckPass (ft : Byte) (s : State) : Result := .next (s.request (.checkPass ft) State.checkPass)

/-- The entry to RUN at the end of the start-up pass, or the return to SETUP when the first night is off the grid
(R163, R174). -/
def State.enterRun (s : State) : State :=
  let night := s.grid.firstNight s.now
  if s.grid.onGrid night then
    let opened := s.mapZones fun z x => if x.inService then { x with record := some (s.newRecord z night) } else x
    ((opened.modCtl fun c => { c with mode := .run }).unlatch flagRestarted).latch flagReady
  else s.modCtl fun c => { c with mode := .setup }

/-- The pass p verifies its next entry and advances; after entry 175 it ends COMPLETED, and a start-up pass hands its end
to the mode controller (R155, R163). -/
def State.passVerify (s : State) (p : CheckPass) : State :=
  let e := entryOf p.next
  let mismatches := if s.entryMatches e then p.mismatches else p.mismatches + 1
  let seen := s.verify e
  if p.next.val = 175 then
    let ended := seen.modChecker fun c =>
      { c with pass := none
               lastPass := some { origin := p.origin, abandoned := false, checked := 176, mismatches := mismatches } }
    match p.origin with
    | .startUp => if s.mode = .starting then ended.enterRun else ended
    | .request => ended
  else seen.modChecker fun c => { c with pass := some { p with next := p.next + 1, mismatches := mismatches } }

/-- CHECK_PASS_VERIFY (R155). With no pass in flight the row has no effect (log 2). -/
def execCheckPassVerify (s : State) : Result :=
  .next
    (match s.checker.pass with
     | none => s
     | some p => s.passVerify p)

end Sys2Proof.Machine
end

