-- ==== Sys2Proof/Machine/MeterRows.lean ====
section
/-! DEFINITION. The rows of the stage and the meter table (02): STAGE_METER, COMMIT_STAGE, DISCARD_STAGE, METER_GET,
METER_RELEASE. -/

namespace Sys2Proof.Machine

open Sys2Proof

/-- STAGE-METER taken: the tests of R25 in order, then the write. -/
def State.stageMeter (s : State) (slot : Byte) (b : MeterBinding) : State :=
  if s.mode = .starting then s.refuse .wrongState 0
  else if s.stage.commitPending then s.refuse .stageLocked 0
  else
    match slotOf slot with
    | none => s.refuse .range 0
    | some m =>
      match bindingFault b with
      | some offset => s.refuse .range offset
      | none =>
        if !s.stage.holds m && stageMax ≤ s.stage.bindings.length then s.refuse .stageFull 0
        else
          let written := s.modStage fun g => g.write { slot := m, binding := storedBinding b }
          written.answer .ok (enc8 written.stage.bindings.length)

/-- STAGE_METER (R25). -/
def execStageMeter (ft slot : Byte) (binding : MeterBinding) (s : State) : Result :=
  .next (s.request (.stageMeter ft slot binding) fun t => t.stageMeter slot binding)

/-- A commit that has passed its validation (R28): applied at once in SETUP; in RUN it becomes a pending commit. -/
def State.acceptCommit (s : State) : State :=
  let n := s.stage.bindings.length
  if s.mode = .setup then s.applyCommit.answer .ok (enc8 n)
  else (s.modStage fun g => { g with commitPending := true }).answer .accepted (enc8 n)

/-- COMMIT-STAGE taken (R27, R28). An empty stage is answered OK with the count 0 (the model's choice, log 16). -/
def State.commitStage (s : State) : State :=
  if s.mode = .starting then s.refuse .wrongState 0
  else if s.stage.commitPending then s.refuse .stageLocked 0
  else if s.stage.bindings = [] then s.answer .ok (enc8 0)
  else
    let v := s.validate s.stage.bindings
    match v.2 with
    | some f => v.1.answer .invalid (refusalDetail f.test 2 f.slot.val f.kindB f.numberB)
    | none => v.1.acceptCommit

/-- COMMIT_STAGE (R27). -/
def execCommitStage (ft : Byte) (s : State) : Result := .next (s.request (.commitStage ft) State.commitStage)

/-- DISCARD-STAGE taken (R26). -/
def State.discardStage (s : State) : State :=
  if s.mode = .starting then s.refuse .wrongState 0
  else if s.stage.commitPending then s.refuse .stageLocked 0
  else (s.modStage Stage.emptied).answer .ok (enc8 s.stage.bindings.length)

/-- DISCARD_STAGE (R26). -/
def execDiscardStage (ft : Byte) (s : State) : Result := .next (s.request (.discardStage ft) State.discardStage)

/-- METER-GET taken (R33, R18): the finding-lost mark is reported and then cleared. -/
def State.meterGet (s : State) (slot : Byte) : State :=
  match slotOf slot with
  | none => s.refuse .range 0
  | some m => (s.modMeter m fun x => { x with lost := false }).answer .ok (s.meterGetBytes m)

/-- METER_GET (R33). -/
def execMeterGet (ft slot : Byte) (s : State) : Result :=
  .next (s.request (.meterGet ft slot) fun t => t.meterGet slot)

/-- The item in hand serves slot m (R55). -/
def State.serves (s : State) (m : SlotId) : Bool :=
  match s.intake.hand with
  | .chosen _ _ slot => slot.map (·.slot) = some m
  | .served _ slot => slot = some m
  | .reading job => slotOf job.slot = some m
  | .idle => false
  | .link => false

/-- The release itself (R34). -/
def State.releaseMeter (s : State) (m : SlotId) : State :=
  if (s.meter m).state = .doubtful then
    (s.modMeter m fun x => { x with state := .awaiting, lastPoint := none, doubt := 0 }).answer .ok []
  else s.refuse .wrongState 0

/-- METER-RELEASE taken (R34); for the slot being served it waits for the item's end (R55). -/
def State.meterRelease (s : State) (slot : Byte) : State :=
  if s.mode = .starting then s.refuse .wrongState 0
  else
    match slotOf slot with
    | none => s.refuse .range 0
    | some m =>
      if s.serves m then s.setWorking.modIntake fun i => { i with releaseWaiting := some m } else s.releaseMeter m

/-- METER_RELEASE (R34). -/
def execMeterRelease (ft slot : Byte) (s : State) : Result :=
  .next (s.request (.meterRelease ft slot) fun t => t.meterRelease slot)

end Sys2Proof.Machine
end

