-- ==== Sys2Proof/Machine/IntakeRows.lean ====
section
/-! DEFINITION. The rows of the intake engine (04): READING, READING_BATCH, READING_PAIR, CAPTURE_RECORD, RESUME_RECORD,
INTAKE_ITEM_END. -/

namespace Sys2Proof.Machine

open Sys2Proof

/-- The intake takes new items: not in the leaving phase, and not once RESTART has been taken (R159, R164). -/
def State.intakeOpen (s : State) : Bool := s.ctl.leaving.isNone && !s.ctl.restarting

/-! ## Readings -/

/-- The whole-request tests of R57 on a bound slot: the entry, the tag, the source. A failed verification faults the slot
first. -/
def State.slotTests (s : State) (m : SlotId) (tag : W32) : State × Option (Status × Nat) :=
  let seen := s.verify (.meter m)
  let x := seen.meter m
  (seen,
    if x.state = .faulted || x.mark then some (.faulted, 0)
    else if x.binding.tag != tag then some (.tagMismatch, 0)
    else if isPulse x.binding then some (.source, 0)
    else none)

/-- The whole-request tests (R57), in order, each failure with the item byte of its refusal (R182). -/
def State.requestTests (s : State) (slot : Byte) (tag : W32) (batch : Bool) (pairs : Nat) :
    State × Option (Status × Nat) :=
  if s.mode != .run then (s, some (.wrongState, 0))
  else
    match slotOf slot with
    | none => (s, some (.range, 0))
    | some m =>
      if batch && (pairs < 1 || 16 < pairs) then (s, some (.range, 5))
      else if (s.meter m).state = .unbound then (s, some (.noSuch, 0))
      else s.slotTests m tag

/-- The link's item is taken and its whole-request tests are made (R54, R57). -/
def State.startReading (s : State) (slot : Byte) (tag : W32) (batch : Bool) (pairs : List Pair) : State :=
  let tested := s.requestTests slot tag batch pairs.length
  let job : ReadingJob := { slot := slot, batch := batch, todo := pairs, outcomes := [], ended := tested.2 }
  tested.1.setWorking.modIntake fun i => { i with hand := .reading job, pointer := 16, touched := [] }

/-- A READING or READING-BATCH reaches the intake (R53, R54): it is taken when the intake has come to the link, or is
idle and takes work; otherwise it stays the link's waiting work. -/
def State.offerReading (s : State) (slot : Byte) (tag : W32) (batch : Bool) (pairs : List Pair) : State :=
  match s.intake.hand with
  | .link => s.startReading slot tag batch pairs
  | .idle => if s.intakeOpen then s.startReading slot tag batch pairs else s
  | .chosen _ _ _ => s
  | .served _ _ => s
  | .reading _ => s

/-- READING (R57). -/
def execReading (ft slot : Byte) (tag : W32) (pair : Pair) (s : State) : Result :=
  .next (s.request (.reading ft slot tag pair) fun t => t.offerReading slot tag false [pair])

/-- READING_BATCH (R57). -/
def execReadingBatch (ft slot : Byte) (tag : W32) (pairs : List Pair) (s : State) : Result :=
  .next (s.request (.readingBatch ft slot tag pairs) fun t => t.offerReading slot tag true pairs)

/-- The tests of one pair (R58) against a slot and part time; the last is the byte offset of the index in the body. -/
def pairRefusal (x : MeterSlot) (now : Nat) (p : Pair) (indexOffset : Nat) : Option (Status × Nat) :=
  if 10 ^ x.binding.digits.toNat ≤ p.index.toNat then some (.range, indexOffset)
  else if now + Config.tooNewTolerance < p.time.toNat then some (.tooNew, 0)
  else
    match x.lastPoint with
    | none => none
    | some q =>
      if p.time.toNat < q.time then some (.order, 0)
      else if p.time.toNat = q.time && p.index != q.value then some (.conflict, 0)
      else none

/-- The pair repeats the slot's last point (R58). -/
def pairRepeats (x : MeterSlot) (p : Pair) : Bool := x.lastPoint = some { time := p.time.toNat, value := p.index }

/-- A pair that passes its tests: a DUPLICATE changes nothing, any other is a new point (R58, R64). -/
def State.takePair (s : State) (m : SlotId) (p : Pair) : State × PairOutcome :=
  if pairRepeats (s.meter m) p then (s, .duplicate)
  else s.takePoint (s.readSlot m) { time := p.time.toNat, value := p.index }

/-- The offset of the index of the next pair in the request body (R183). -/
def ReadingJob.indexOffset (j : ReadingJob) : Nat := if j.batch then 6 + 8 * j.outcomes.length + 4 else 9

/-- The job after its next pair was taken with an outcome: it ends OK with its last pair (R60). -/
def ReadingJob.took (j : ReadingJob) (rest : List Pair) (o : PairOutcome) : ReadingJob :=
  { j with todo := rest, outcomes := j.outcomes ++ [o], ended := if rest = [] then some (.ok, 0) else none }

/-- The job in hand is replaced. -/
def State.setJob (s : State) (j : ReadingJob) : State := s.modIntake fun i => { i with hand := .reading j }

/-- The next pair of the job in hand (R58, R59): a slot FAULTED meanwhile ends the request FAULTED; a refusal ends it
with its code; otherwise the pair is taken. -/
def State.readPair (s : State) (j : ReadingJob) (p : Pair) (rest : List Pair) : State :=
  match slotOf j.slot with
  | none => s.setJob { j with ended := some (.range, 0) }
  | some m =>
    if (s.meter m).state = .faulted then s.setJob { j with ended := some (.faulted, 0) }
    else
      match pairRefusal (s.meter m) s.now p j.indexOffset with
      | some r => s.setJob { j with ended := some r }
      | none =>
        let taken := s.takePair m p
        taken.1.setJob (j.took rest taken.2)

/-- One pair, when a READING or READING-BATCH is in hand with a pair left to take. -/
def State.readingPair (s : State) : State :=
  match s.intake.hand with
  | .reading j =>
    match j.ended, j.todo with
    | none, p :: rest => s.readPair j p rest
    | none, [] => s.setJob { j with ended := some (.ok, 0) }
    | some _, _ => s
  | .idle => s
  | .chosen _ _ _ => s
  | .served _ _ => s
  | .link => s

/-- READING_PAIR (R58). With no pair in hand to take the row has no effect (log 2). -/
def execReadingPair (s : State) : Result := .next s.readingPair

/-! ## Capture records -/

/-- The slots whose state and stored source claim channel x (R61), in ascending order. -/
def State.claimants (s : State) (x : ChanId) : List SlotId :=
  (List.finRange 128).filter fun m =>
    let y := s.meter m
    (y.state = .awaiting || y.state = .live || y.state = .doubtful) && isPulse y.binding && y.binding.channel.toNat = x.val

/-- The record's slot (R61): the claimants are verified in ascending order until one matches, faulting each that
mismatches. -/
def State.findClaimant (s : State) : List SlotId → State × Option SlotId
  | [] => (s, none)
  | m :: rest =>
    let seen := s.verify (.meter m)
    if (seen.meter m).mark then seen.findClaimant rest else (seen, some m)

/-- The oldest record of channel x leaves its list as the intake takes it, the pointer moves to the channel, and the
record's slot is found, verified and read (R45, R54, R55, R61, R62). -/
def State.takeRecord (s : State) (x : ChanId) (r : Capture) : State :=
  let left := s.modChannel x fun c => { c with list := c.list.tail }
  let found := left.findClaimant (left.claimants x)
  found.1.modIntake fun i =>
    { i with hand := .chosen x r (found.2.map found.1.readSlot), pointer := x.castSucc, touched := [] }

/-- The work of a record for its slot: a point, for the records that accept it now (R61, R71, R97), or the two steps of a
RESUME, both for the records that accepted when it was taken (R62). -/
def State.handleRecord (s : State) (t : TakenSlot) : Capture → State
  | .pulse t1 c => (s.takePoint (s.readRecords t) { time := t1, value := c }).1
  | .boundary t1 c => (s.takePoint (s.readRecords t) { time := t1, value := c }).1
  | .resume g cg r cr => (s.takePoint t { time := g, value := cg }).1.resumeGap t g r cr

/-- The record in hand is handled under the slot found when it was taken, or discarded when it has none (R55, R61). -/
def State.serveRecord (s : State) (x : ChanId) (r : Capture) (slot : Option TakenSlot) : State :=
  let handled := match slot with
    | none => s
    | some t => s.handleRecord t r
  handled.modIntake fun i => { i with hand := .served x (slot.map (·.slot)) }

/-- A RESUME record. -/
def Capture.isResume : Capture → Bool
  | .resume _ _ _ _ => true
  | .pulse _ _ => false
  | .boundary _ _ => false

/-- The record in hand is served when it is channel x's and of the row's kind. -/
def State.serveChosen (s : State) (x : ChanId) (resume : Bool) : State :=
  match s.intake.hand with
  | .chosen y r slot => if y = x && r.isResume = resume then s.serveRecord x r slot else s
  | .idle => s
  | .served _ _ => s
  | .link => s
  | .reading _ => s

/-- The intake serves a record of channel x of the row's kind: the one it has taken, or, idle and taking work, the oldest
of the list, which it takes first (R54, log 7, log 8). -/
def State.captureItem (s : State) (x : ChanId) (resume : Bool) : State :=
  match s.intake.hand with
  | .idle =>
    match (s.channel x).list with
    | r :: _ => if s.intakeOpen && r.isResume = resume then (s.takeRecord x r).serveChosen x resume else s
    | [] => s
  | .chosen _ _ _ => s.serveChosen x resume
  | .served _ _ => s
  | .link => s
  | .reading _ => s

/-- CAPTURE_RECORD (R61): a PULSE or BOUNDARY record. -/
def execCaptureRecord (ch : ChanId) (s : State) : Result := .next (s.captureItem ch false)

/-- RESUME_RECORD (R62). -/
def execResumeRecord (ch : ChanId) (s : State) : Result := .next (s.captureItem ch true)

/-! ## The end of an item -/

/-- The reply of a READING or READING-BATCH (R60, R186). -/
def State.replyReading (s : State) (j : ReadingJob) : State :=
  match j.ended with
  | none => s
  | some (.ok, _) => s.answer .ok (s.readingBytes j.slot j.outcomes)
  | some (st, item) => s.answer st (itemDetail item ++ s.readingBytes j.slot j.outcomes)

/-- The early close tests on the records the item touched (R56, R94). Two zones that join the empty closing set here,
while the analyser is idle, join it in one instant (R96, log 24). -/
def State.earlyCloses (s : State) : State :=
  let tested := s.intake.touched.foldl State.earlyClose s
  if s.closingSet = [] && s.analyser.analysing.isNone then
    tested.modAnalyser fun a => { a with raced := tested.closingSet }
  else tested

/-- A pending commit that fell due, or that meets the leaving phase, is applied (R29, R56, R159 step 2), between the taking
of RESTART and its acting too (log 37). -/
def State.dueCommit (s : State) : State :=
  if s.stage.commitPending && (s.stage.due || s.ctl.leaving.isSome) then
    (s.modCtl fun c => { c with leaving := c.leaving.map fun l => { l with applied := s.stage.bindings.length } }).applyCommit
  else s

/-- A METER-RELEASE that waited for the item is taken (R55, R34). -/
def State.dueRelease (s : State) : State :=
  match s.intake.releaseWaiting with
  | some m => (s.modIntake fun i => { i with releaseWaiting := none }).releaseMeter m
  | none => s

/-- One part of an item's end. -/
def State.itemEndPart (s : State) : ItemEndPart → State
  | .earlyClose => s.earlyCloses
  | .commit => s.dueCommit
  | .release => s.dueRelease

/-- Each part once, in the order the command gives (R55, R56, log 6). -/
def itemEndOrder (order : List ItemEndPart) : List ItemEndPart :=
  (order ++ [ItemEndPart.earlyClose, ItemEndPart.commit, ItemEndPart.release]).eraseDups

/-- Requester r has waiting work (R53); 16 is the link. -/
def State.hasWork (s : State) (r : Fin 17) : Bool :=
  if h : r.val < 16 then !(s.channel ⟨r.val, h⟩).list.isEmpty else s.link.hasReading

/-- The ring from the requester after the pointer, once round (R54). -/
def ringFrom (p : Fin 17) : List (Fin 17) := (List.finRange 17).map fun i => p + 1 + i

/-- The next item is taken (R54): the first requester of the ring that has waiting work, if the intake takes work. -/
def State.takeNext (s : State) : State :=
  let idle := s.modIntake fun i => { i with hand := .idle, touched := [] }
  if s.intakeOpen then
    match (ringFrom s.intake.pointer).find? s.hasWork with
    | none => idle
    | some r =>
      if h : r.val < 16 then
        match (s.channel ⟨r.val, h⟩).list with
        | c :: _ => idle.takeRecord ⟨r.val, h⟩ c
        | [] => idle
      else idle.modIntake fun i => { i with hand := .link, pointer := 16 }
  else idle

/-- The end of the item in hand: reply, early closes, due commit and waiting release, then the next item (R56). -/
def State.itemEnd (s : State) (order : List ItemEndPart) : State :=
  match s.intake.hand with
  | .served _ _ => ((itemEndOrder order).foldl State.itemEndPart s).takeNext
  | .reading j =>
    if j.ended.isSome then ((itemEndOrder order).foldl State.itemEndPart (s.replyReading j)).takeNext else s
  | .idle => s
  | .chosen _ _ _ => s
  | .link => s

/-- INTAKE_ITEM_END (R56). While the item's work is not done, or no item is in hand, the row has no effect (log 2). -/
def execIntakeItemEnd (order : List ItemEndPart) (s : State) : Result := .next (s.itemEnd order)

end Sys2Proof.Machine
end

