-- ==== Sys2Proof/Machine/LinkRows.lean ====
section
/-! DEFINITION. The rows of the link controller (12): BYTE_RECEIVED, FRAME_GAP_TIMEOUT, REPLY_SENT, UNKNOWN_KIND. -/

namespace Sys2Proof.Machine

open Sys2Proof

/-- BYTE_RECEIVED (R177 to R179). -/
def execByteReceived (e : RxEvent) (s : State) : Result := .next (s.receive e)

/-- FRAME_GAP_TIMEOUT (R177): more than 20 ms of silence in a frame abandons it; hunting, it has no effect. -/
def execFrameGapTimeout (s : State) : Result := .next (s.modLink fun l => { l with rx := .hunting })

/-- REPLY_SENT (R179): the reply has left and the oldest frame of the queue is taken. With no reply being sent the row
has no effect (log 2). -/
def execReplySent (s : State) : Result := .next s.replySent

/-- UNKNOWN_KIND (R179): the link controller answers a frame whose kind is not in the catalogue. -/
def execUnknownKind (ft kind : Byte) (body : List Byte) (s : State) : Result :=
  .next (s.request (.unknownKind ft kind body) fun t => t.refuse .unknownKind 0)

end Sys2Proof.Machine
end

