-- ==== Sys2Proof/Machine/ModeRows.lean ====
section
/-! DEFINITION. The rows of the mode controller and of the resets (10, 12): STATUS_GET, ENTER_SETUP, LEAVING_PHASE_END,
LEAVE_SETUP, RESTART, RESTART_CLEAR, POWER_ON, PIN_RESET, RESET_PIN_LOW. -/

namespace Sys2Proof.Machine

open Sys2Proof

/-- STATUS_GET (R187). -/
def execStatusGet (ft : Byte) (s : State) : Result :=
  .next (s.request (.statusGet ft) fun t => t.answer .ok t.statusBytes)

/-! ## Entering SETUP -/

/-- The three counts of ENTER-SETUP's reply (R160). -/
def countsBytes (applied analysed ended : Nat) : List Byte := enc8 applied ++ enc8 analysed ++ enc8 ended

/-- Every capture list is emptied (R52). -/
def State.emptyLists (s : State) : State := s.mapChannels fun _ c => { c with list := [] }

/-- What ENTER-SETUP does to modes, lists, passes and conditions in one step, whichever mode it comes from (R146, R160,
R162): records are gone, WATCH zones CLEAR, runs 0, lists empty, a pass in flight ABANDONED, the mode SETUP. -/
def State.toSetup (s : State) : State :=
  let calmed := s.mapZones fun _ z => { z.calm with record := none }
  ((calmed.emptyLists.modChecker Checker.abandon).modAnalyser fun a => { a with raced := [] }).modCtl fun c =>
    { c with mode := .setup, leaving := none }

/-- ENTER-SETUP taken in RUN: the leaving phase begins (R159). A pending commit is applied at once unless the intake
holds an item; then it is applied when the item ends. -/
def State.beginLeaving (s : State) : State :=
  let leaving := s.setWorking.modCtl fun c => { c with leaving := some { applied := 0, analysed := [] } }
  if s.intake.hand = .idle then leaving.dueCommit else leaving

/-- ENTER-SETUP taken (R159, R160, R162). -/
def State.enterSetup (s : State) : State :=
  match s.mode with
  | .setup => s.refuse .wrongState 0
  | .starting => s.toSetup.answer .ok (countsBytes 0 0 0)
  | .run => s.beginLeaving

/-- ENTER_SETUP (R159). -/
def execEnterSetup (ft : Byte) (s : State) : Result := .next (s.request (.enterSetup ft) State.enterSetup)

/-- The record is COLLECTING or DRAINING. -/
def Zone.gathering (z : Zone) : Bool :=
  match z.record with
  | some r => r.state = .collecting || r.state = .draining
  | none => false

/-- A COLLECTING or DRAINING record of the zone is ended INCOMPLETE (R109, R160). -/
def State.endRecord (s : State) (zid : ZoneId) : State :=
  match (s.zone zid).record with
  | some r =>
    if (s.zone zid).gathering then
      (s.handOutcome zid (s.zone zid).entry.settings r.night .ended).writeClose zid r.night .ended
    else s
  | none => s

/-- The number of nights that ENTER-SETUP ends (R160). -/
def State.gatheringCount (s : State) : Nat := (List.finRange 48).countP fun z => (s.zone z).gathering

/-- The leaving phase has come to its end: no item in hand, no commit pending, the closing set empty and the analyser
idle (R159). -/
def State.leavingDone (s : State) : Bool :=
  s.intake.hand = .idle && !s.stage.commitPending && s.closingSet = [] && s.analyser.analysing.isNone

/-- The change to SETUP (R160): the records are ended in ascending zone order, then the rest of the step, then the
reply. -/
def State.leave (s : State) (l : Leaving) : State :=
  let ended := (List.finRange 48).foldl State.endRecord s
  ended.toSetup.answer .ok (countsBytes l.applied l.analysed.length s.gatheringCount)

/-- LEAVING_PHASE_END (R160). Outside a leaving phase, or before its work is done, the row has no effect (log 2). -/
def execLeavingPhaseEnd (s : State) : Result :=
  .next
    (match s.ctl.leaving with
     | some l => if s.leavingDone then s.leave l else s
     | none => s)

/-! ## Leaving SETUP -/

/-- The zone fails LEAVE-SETUP's check 2 (R161): a stored setting out of range, or a hold line on a channel that is not
in STATUS mode. Only configured zones not in FAULT are examined. -/
def State.zoneUnfit (s : State) (zid : ZoneId) : Bool :=
  let z := s.zone zid
  z.inService &&
    ((settingsFault z.entry.settings).isSome ||
      match chanOf z.entry.settings.holdLine with
      | some c => (s.channel c).mode != .status
      | none => false)

/-- The slot fails LEAVE-SETUP's check 3 (R161): a PULSE slot in service whose channel is not in COUNT mode. -/
def State.slotUnfit (s : State) (m : SlotId) : Bool :=
  let x := s.meter m
  (x.state = .awaiting || x.state = .live || x.state = .doubtful) && isPulse x.binding &&
    match chanOf x.binding.channel with
    | some c => (s.channel c).mode != .count
    | none => true

/-- LEAVE-SETUP's first failing check, as the refusal detail names it (R161, R182). -/
def State.leaveFault (s : State) : Option (List Byte) :=
  if !s.grid.onGrid (s.grid.firstNight s.now) then some (refusalDetail 1 0 0 0 0)
  else
    match (List.finRange 48).find? s.zoneUnfit with
    | some z => some (refusalDetail 2 1 z.val 0 0)
    | none =>
      match (List.finRange 128).find? s.slotUnfit with
      | some m => some (refusalDetail 3 2 m.val 0 0)
      | none => none

/-- LEAVE-SETUP taken (R161, R154): STARTING, with a start-up pass that first abandons a REQUEST pass. -/
def State.leaveSetup (s : State) : State :=
  if s.mode = .setup then
    match s.leaveFault with
    | some detail => s.answer .invalid detail
    | none =>
      let passing := s.modChecker fun c =>
        { c.abandon with pass := some { origin := .startUp, next := 0, mismatches := 0 } }
      (passing.modCtl fun c => { c with mode := .starting }).answer .accepted []
  else s.refuse .wrongState 0

/-- LEAVE_SETUP (R161). -/
def execLeaveSetup (ft : Byte) (s : State) : Result := .next (s.request (.leaveSetup ft) State.leaveSetup)

/-! ## RESTART -/

/-- STARTING ends: the start-up pass ends ABANDONED and the mode is SETUP (R155, R162). In another mode nothing happens. -/
def State.endStarting (s : State) : State :=
  if s.mode = .starting then (s.modChecker Checker.abandon).modCtl fun c => { c with mode := .setup } else s

/-- RESTART taken (R164): the intake and the analyser take no new work until it acts. STARTING ends with the taking itself
(R162, log 40). -/
def State.restart (s : State) : State :=
  s.endStarting.setWorking.modCtl fun c => { c with restarting := true }

/-- RESTART (R164): taken in every mode. -/
def execRestart (ft : Byte) (s : State) : Result := .next (s.request (.restart ft) State.restart)

/-- A slot at RESTART (R17): LIVE and DOUBTFUL become AWAITING. -/
def MeterSlot.restart (m : MeterSlot) : MeterSlot :=
  if m.state = .live || m.state = .doubtful then { m with state := .awaiting, lastPoint := none, doubt := 0 } else m

/-- The gates of every COUNT channel are evaluated afresh (R52). -/
def State.gatesAfresh (s : State) : State :=
  (List.finRange 16).foldl (fun t x => if (t.channel x).mode = .count then t.gateAfresh x else t) s

/-- What RESTART clears, block by block (R164, R52, R17, R146, R16). -/
def State.restartClear (s : State) : State :=
  let blocks : State :=
    { s with
      time := { s.time with pendingTrim := 0 }
      stage := s.stage.emptied
      intake := { s.intake with hand := .idle, touched := [], releaseWaiting := none }
      analyser := { analysing := none, raced := [] }
      findings := []
      checker := s.checker.abandon
      ctl := { mode := .setup, leaving := none, restarting := false } }
  let zoned := blocks.mapZones fun _ z => { z.calm with record := none }
  let metered := zoned.mapMeters fun _ m => m.restart
  (metered.mapChannels fun _ c => c.restart).gatesAfresh

/-- RESTART_CLEAR (R164, R165, R174): once the item in hand and the analysis in hand have ended, RESTART acts, the
flags are cleared and RESTARTED latched, and the reply is sent. Before that the row has no effect (log 2). -/
def execRestartClear (s : State) : Result :=
  .next
    (if s.ctl.restarting && s.intake.hand = .idle && s.analyser.analysing.isNone then
      (s.restartClear.restartFlags).answer .ok []
     else s)

/-! ## Power-on and the RESET pin -/

/-- The rate that the strap pins select (R175). -/
def rateOf (rate1 rate0 : Bool) : LineRate :=
  match rate1, rate0 with
  | false, false => .r9600
  | false, true => .r38400
  | true, false => .r115200
  | true, true => .r460800

/-- Every block in its reset state (R166), with the rate the straps select (R175); the levels of PIN0 to PIN15 are inputs
and stay (log 12), the RESET pin is left at the level named, and the queue of commands stays. -/
def State.powerUp (s : State) (rate1 rate0 resetLow : Bool) : State :=
  { State.reset with
    channels := Vector.ofFn fun c => { resetChannel with pinHigh := (s.channel c).pinHigh }
    link := { State.reset.link with rate := rateOf rate1 rate0, resetLow := resetLow }
    pending := s.pending }

/-- POWER_ON (R166, R175): the straps are read when power-on reset ends. A RESET pin that is held low then stays low: no
byte is received and ATTN is not driven until PIN_RESET (R170, log 12). -/
def execPowerOn (rate1 rate0 : Bool) (s : State) : Result := .next (s.powerUp rate1 rate0 s.link.resetLow)

/-- PIN_RESET (R166, R175, R188): release of the RESET pin after it was held low. -/
def execPinReset (rate1 rate0 : Bool) (s : State) : Result := .next (s.powerUp rate1 rate0 false)

/-- RESET_PIN_LOW (R170, R188): ATTN is no longer driven, a reply being sent is stopped, received bytes are ignored. -/
def execResetPinLow (s : State) : Result :=
  .next (s.modLink fun l =>
    { l with
      resetLow := true
      hand := match l.hand with
        | some h =>
          match h.phase with
          | .sending _ => none
          | .waiting => some h
          | .working => some h
        | none => none })

end Sys2Proof.Machine
end

