-- ==== Sys2Proof/Machine/NightRows.lean ====
section
/-! DEFINITION. The rows of the night analyser (06): ANALYSER_TAKE_ZONE, NIGHT_ANALYSIS_END, and the three parts of
NIGHT-GET. -/

namespace Sys2Proof.Machine

open Sys2Proof

/-- The zone the analyser takes (R96): the lowest-numbered of the closing set; or `pick`, when it is one of the zones
that joined the empty set in one instant while the analyser was idle, and they alone are the set (log 24). -/
def State.nextZone (s : State) (pick : Option ZoneId) : Option ZoneId :=
  match pick with
  | some z =>
    if s.analyser.raced.contains z && s.closingSet = s.analyser.raced then some z else s.closingSet.head?
  | none => s.closingSet.head?

/-- The member slots that are FAULTED when the analyser takes zone z (R97, R99). -/
def State.faultedSlots (s : State) (zid : ZoneId) : List SlotId :=
  match (s.zone zid).record with
  | some r => s.faultedMembers r
  | none => []

/-- The analyser takes zone z (R97): its entry is verified; a mismatch puts the zone in FAULT and ends the analysis;
otherwise the settings and the FAULTED slots are read for the judgement. -/
def State.takeZone (s : State) (zid : ZoneId) : State :=
  let seen := (s.modAnalyser fun a => { a with raced := [] }).verify (.zone zid)
  if (seen.zone zid).mark then seen.outOfService (.zone zid)
  else
    seen.modAnalyser fun a =>
      { a with analysing := some { zone := zid, settings := (seen.zone zid).entry.settings,
                                   faulted := seen.faultedSlots zid, deferredFault := false } }

/-- ANALYSER_TAKE_ZONE (R96, R97, R164). With a zone in hand, an empty closing set or a RESTART taken, the row has no
effect (log 2). -/
def execAnalyserTakeZone (pick : Option ZoneId) (s : State) : Result :=
  .next
    (if s.analyser.analysing.isSome || s.ctl.restarting then s
     else
       match s.nextZone pick with
       | none => s
       | some zid => s.takeZone zid)

/-- Steps 1 to 3 of the ending of a zone (R106): the outcome is handed on and worked, the last close record is written,
and the record gives way to that of the next night when it is on the grid (R91). -/
def State.closeNight (s : State) (a : Analysis) (r : NightRecord) : State :=
  let cls := s.judge a r
  let worked := (s.handOutcome a.zone a.settings r.night cls).writeClose a.zone r.night cls
  worked.modZone a.zone fun z => { z with record := worked.recordFor a.zone (r.night + 1) }

/-- The analysis of zone z is over (R106 step 4): the analyser is free, NIGHT-CLOSED is raised, and the leaving phase counts
the zone (R160), once however often it is analysed in the phase (log 41). -/
def State.freeAnalyser (s : State) (zid : ZoneId) : State :=
  ((s.modAnalyser fun x => { x with analysing := none }).latch flagNightClosed).modCtl fun c =>
    { c with leaving := c.leaving.map fun l => { l with analysed := l.analysed.insert zid } }

/-- The end of the analysis in hand (R106); an entry fault that waited is then finished (R97, R148). -/
def State.analysisEnd (s : State) : State :=
  match s.analyser.analysing with
  | none => s
  | some a =>
    match (s.zone a.zone).record with
    | none => s.modAnalyser fun x => { x with analysing := none }
    | some r =>
      let ended := (s.closeNight a r).freeAnalyser a.zone
      if a.deferredFault then ended.finishFault (.zone a.zone) else ended

/-- NIGHT_ANALYSIS_END (R106). With no analysis in hand the row has no effect (log 2). -/
def execNightAnalysisEnd (s : State) : Result := .next s.analysisEnd

/-- The bins part of NIGHT-GET (R108): no open night, whatever first bin up to 31 is named (the model's choice between two
clauses of R108, log 39); or the bins from the first on, refused RANGE at or above n. -/
def State.nightBins (s : State) (zid : ZoneId) (first : Nat) (body : NightRecord → List Byte) : State :=
  match (s.zone zid).record with
  | none => s.answer .ok noOpenNight
  | some r => if s.grid.binCount ≤ first then s.refuse .range 2 else s.answer .ok (body r)

/-- NIGHT-GET taken (R108); `part` is 0 SUMMARY, 1 VOLUMES or 2 PRESSURE (R183). -/
def State.nightGet (s : State) (zone part firstBin : Byte) : State :=
  match zoneOf zone with
  | none => s.refuse .range 0
  | some zid =>
    if 2 < part.toNat then s.refuse .range 1
    else if part = 0 then s.answer .ok (s.summaryBytes zid)
    else if 31 < firstBin.toNat then s.refuse .range 2
    else if part = 1 then s.nightBins zid firstBin.toNat fun r => r.volumesBytes firstBin.toNat
    else s.nightBins zid firstBin.toNat fun r => r.pressureBytes firstBin.toNat

/-- NIGHT_GET_SUMMARY (R108); a part byte that is none of the three stands in this row (log 11). -/
def execNightGetSummary (ft zone part firstBin : Byte) (s : State) : Result :=
  .next (s.request (.nightGetSummary ft zone part firstBin) fun t => t.nightGet zone part firstBin)

/-- NIGHT_GET_VOLUMES (R108). -/
def execNightGetVolumes (ft zone firstBin : Byte) (s : State) : Result :=
  .next (s.request (.nightGetVolumes ft zone firstBin) fun t => t.nightGet zone 1 firstBin)

/-- NIGHT_GET_PRESSURE (R108). -/
def execNightGetPressure (ft zone firstBin : Byte) (s : State) : Result :=
  .next (s.request (.nightGetPressure ft zone firstBin) fun t => t.nightGet zone 2 firstBin)

end Sys2Proof.Machine
end

