-- ==== Sys2Proof/Machine/PressureRows.lean ====
section
/-! DEFINITION. The rows of the pressure unit (05): PRESSURE, SET_PRESSURE_TABLE, PRESSURE_TABLE_QUERY. -/

namespace Sys2Proof.Machine

open Sys2Proof

/-- A sample is saturated to 20 000 hPa (R83). -/
def saturatePressure (v : W16) : Nat := min 20000 v.toNat

/-- The most samples a bin counts (R83). -/
def samplesMax : Nat := 255

/-- A sample added to a bin (R83). -/
def Bin.addSample (b : Bin) (value : Nat) : Bin :=
  { b with pressureSum := b.pressureSum + value, pressureCount := b.pressureCount + 1 }

/-- A sample for bin k of zone z's record r (R83, R84): ADDED, or FULL with the bin unchanged. -/
def State.addSample (s : State) (zid : ZoneId) (r : NightRecord) (k : Nat) (v : W16) : State :=
  let value := saturatePressure v
  let count := (r.bins[k]?.map (·.pressureCount)).getD 0
  if count < samplesMax then
    (s.modZone zid fun z => { z with record := some { r with bins := r.bins.modify k (·.addSample value) } }).answer .ok
      (addedBytes r.night k (count + 1) value)
  else s.answer .ok (fullBytes r.night k count)

/-- A sample that has passed the tests of R81 is placed by its time (R82). -/
def State.placeSample (s : State) (zid : ZoneId) (t : Nat) (v : W16) : State :=
  match (s.zone zid).record with
  | none => if (s.grid.nightOf t).isSome then s.refuse .late 0 else s.answer .ok ignoredBytes
  | some r =>
    if s.grid.inWindow r.night t then
      if r.accepting then s.addSample zid r ((t - s.grid.ws r.night) / s.grid.seconds) v else s.refuse .late 0
    else if s.grid.inEarlier r.night t then s.refuse .late 0
    else s.answer .ok ignoredBytes

/-- PRESSURE taken: the tests of R81 in order, then R82. -/
def State.pressure (s : State) (zone : Byte) (t : W32) (v : W16) : State :=
  if s.mode != .run then s.refuse .wrongState 0
  else
    match zoneOf zone with
    | none => s.refuse .range 0
    | some zid =>
      if (s.zone zid).condition = .unconfigured then s.refuse .noSuch 0
      else if (s.zone zid).condition = .fault then s.refuse .wrongState 0
      else if s.now + Config.tooNewTolerance < t.toNat then s.refuse .tooNew 0
      else s.placeSample zid t.toNat v

/-- PRESSURE (R81). -/
def execPressure (ft zone : Byte) (time : W32) (value : W16) (s : State) : Result :=
  .next (s.request (.pressure ft zone time value) fun t => t.pressure zone time value)

/-- SET-PRESSURE-TABLE with 17 entries taken (R87); refused or not, the reply carries the table in force after it. -/
def State.writeTable (s : State) (entries : Vector W16 17) : State :=
  if s.mode = .setup then (s.setTable entries).answer .ok (tableBytes entries)
  else s.answer .wrongState (itemDetail 0 ++ tableBytes s.table)

/-- SET_PRESSURE_TABLE (R87). -/
def execSetPressureTable (ft : Byte) (entries : Vector W16 17) (s : State) : Result :=
  .next (s.request (.setPressureTable ft entries) fun t => t.writeTable entries)

/-- PRESSURE_TABLE_QUERY (R87): SET-PRESSURE-TABLE with no entries. -/
def execPressureTableQuery (ft : Byte) (s : State) : Result :=
  .next (s.request (.pressureTableQuery ft) fun t => t.answer .ok (tableBytes t.table))

end Sys2Proof.Machine
end

