-- ==== Sys2Proof/Machine/TimeRows.lean ====
section
/-! DEFINITION. The rows of the time base (01): SECOND_TICK with the work of a boundary event, STANDSTILL_END,
SET_CLOCK, SET_GRID, TIME_MARK. -/

namespace Sys2Proof.Machine

open Sys2Proof

/-- The entries the scrub verifies at one boundary (R153). -/
def scrubCount : Nat := 16

/-- The work of a boundary event that has just been raised (R3): every block has it still to take. -/
def BoundaryEvent.begin (e : BoundaryEvent) : BoundaryWork :=
  { event := e, channels := List.finRange 16, stage := true, analyser := true, verifies := scrubCount }

/-- The work of the event in delivery is written. -/
def State.setBoundary (s : State) (w : BoundaryWork) : State := s.modTime fun t => { t with boundary := some w }

/-- One of the scrub's verifications (R153): they begin at the scrub pointer and wrap from entry 175 to entry 0, and the
pointer advances by 16 with the last. The checker takes the event at the first; outside RUN it makes none of them. -/
def State.scrubVerify (s : State) (w : BoundaryWork) : State :=
  if w.verifies = 0 then s
  else if w.verifies = scrubCount ∧ s.mode ≠ .run then s.setBoundary { w with verifies := 0 }
  else
    let seen := (s.setBoundary { w with verifies := w.verifies - 1 }).verify
      (entryOf (s.checker.scrub + Fin.ofNat 176 (scrubCount - w.verifies)))
    if w.verifies = 1 then seen.modChecker fun c => { c with scrub := c.scrub + Fin.ofNat 176 scrubCount } else seen

/-- One part of the event in delivery is worked; a part that is done already is passed over (log 5). -/
def State.boundaryPart (s : State) (p : BoundaryPart) : State :=
  match s.time.boundary with
  | none => s
  | some w =>
    match p with
    | .channel c =>
      if w.channels.contains c then
        (s.setBoundary { w with channels := w.channels.erase c }).channelBoundary w.event.time c
      else s
    | .stage => if w.stage then (s.setBoundary { w with stage := false }).stageBoundary else s
    | .analyser => if w.analyser then (s.setBoundary { w with analyser := false }).analyserBoundary w.event.mark else s
    | .verify => s.scrubVerify w

/-- Parts of the event in delivery worked one after another. -/
def State.boundaryParts (s : State) (order : List BoundaryPart) : State := order.foldl State.boundaryPart s

/-- Every part, and every verification of the scrub. -/
def allParts : List BoundaryPart :=
  (List.finRange 16).map BoundaryPart.channel ++ .stage :: .analyser :: List.replicate scrubCount .verify

/-- The event in delivery, if any, comes to its end: what is left of its work, then the trim step (R3, R11, R12). -/
def State.settle (s : State) : State :=
  match s.time.boundary with
  | none => s
  | some _ => (s.boundaryParts allParts).modTime fun t => { t.trim with boundary := none }

/-- The tick of the time base (R1); when it advances part time onto a boundary, the boundary event is raised (R3). -/
def State.tick (s : State) : State :=
  s.modTime fun t =>
    let ticked := t.tick
    if t.advances && t.grid.isBoundary ticked.partTime then
      { ticked with boundary := some (t.grid.eventAt ticked.partTime).begin }
    else ticked

/-- A one-second tick (R1, R3), in full or in part (log 30): an event still in delivery comes to its end and the time base
ticks, or the second of the tick before goes on; the parts in `order` of the event in delivery are worked; and the rest of
it, with the trim step, is worked too or left due. -/
def State.secondTick (s : State) (order : List BoundaryPart) : SecondShare → State
  | .whole => (s.settle.tick.boundaryParts order).settle
  | .start => s.settle.tick.boundaryParts order
  | .more => s.boundaryParts order
  | .rest => (s.boundaryParts order).settle

/-- SECOND_TICK (R1). With no event in delivery, more or the rest of a second has no effect (log 2). -/
def execSecondTick (order : List BoundaryPart) (share : SecondShare) (s : State) : Result :=
  .next (s.secondTick order share)

/-- STANDSTILL_END (R1, R12): the tick on which the standstill runs out. Part time holds, and the next tick advances it
(log 4). Without a standstill of one second left the row has no effect (log 2). -/
def execStandstillEnd (s : State) : Result :=
  .next (if s.settle.time.standstill = 1 then s.settle.modTime TimeBase.tick else s)

/-- What the block does while no command waits: an event in delivery comes to its end; otherwise nothing (logs 1, 30). -/
def State.idle (s : State) : State := s.settle

/-- Part time is set (R9). -/
def TimeBase.set (b : TimeBase) (t : Nat) : TimeBase :=
  { b with partTime := t, pendingTrim := 0, standstill := 0, divider := 0 }

/-- SET-CLOCK taken (R9, R44): an event in delivery comes to its end first (log 30). -/
def State.setClock (s : State) (t : W32) : State :=
  if s.mode = .setup then
    ((s.settle.modTime (·.set t.toNat)).mapChannels fun _ c => c.redate t.toNat).answer .ok (be32 t)
  else s.refuse .wrongState 0

/-- SET_CLOCK (R9). -/
def execSetClock (ft : Byte) (time : W32) (s : State) : Result :=
  .next (s.request (.setClock ft time) fun t => t.setClock time)

/-- SET-GRID taken (R8): refused, or the whole grid replaced; both replies in SETUP carry the grid in force. A boundary event
in delivery keeps what it was raised with (R4) and stays in delivery; its trim step is then made by the new setting (the
model's choice, log 30). -/
def State.setGrid (s : State) (f : GridFields) : State :=
  if s.mode = .setup then
    match gridFault (gridOf f) with
    | some offset => s.answer .range (itemDetail offset ++ gridBytes s.grid)
    | none => (s.modTime fun b => { b with grid := gridOf f }).answer .ok (gridBytes (gridOf f))
  else s.refuse .wrongState 0

/-- SET_GRID (R8). -/
def execSetGrid (ft : Byte) (grid : GridFields) (s : State) : Result :=
  .next (s.request (.setGrid ft grid) fun t => t.setGrid grid)

/-- The offset of a TIME-MARK: reference minus part time (R10). -/
def State.markOffset (s : State) (reference : W32) : Int := (reference.toNat : Int) - s.now

/-- TIME-MARK taken (R10). -/
def State.timeMark (s : State) (reference : W32) : State :=
  if s.mode = .run then
    let offset := s.markOffset reference
    if Config.clockFarLimit < offset ∨ offset < -Config.clockFarLimit then
      (s.latch flagClock).answer .clockFar (itemDetail 0 ++ timeMarkBytes s.now offset)
    else (s.modTime fun b => { b with pendingTrim := offset }).answer .ok (timeMarkBytes s.now offset)
  else s.refuse .wrongState 0

/-- TIME_MARK (R10). -/
def execTimeMark (ft : Byte) (reference : W32) (s : State) : Result :=
  .next (s.request (.timeMark ft reference) fun t => t.timeMark reference)

end Sys2Proof.Machine
end

