-- ==== Sys2Proof/Machine/ZoneRows.lean ====
section
/-! DEFINITION. The rows of the zone condition unit (02, 07, 08): SET_ZONE and its unconfigure option, ZONE_GET,
HISTORY_GET, HOLD_ZONE, CLEAR_ZONE, BASELINE_GET, BASELINE_PUT. -/

namespace Sys2Proof.Machine

open Sys2Proof

/-- The zone after SET-ZONE writes its entry, by its condition before (R21, R107, R151). -/
def Zone.configure (z : Zone) (x : ZoneSettings) : Zone :=
  let e : ZoneEntry := { configured := 1, settings := x }
  let written := { z with entry := e, code := zoneCode e, mark := false }
  let byCount : Condition := if written.settled then .clear else .settling
  match z.condition with
  | .unconfigured =>
    { written with kept := .settling, baseline := 0, spread := 0, settling := 0, history := [], run := 0,
                   episodes := 0, holdFlag := false, lost := false, lastClose := none }
  | .fault => { written with kept := byCount, run := 0 }
  | .settling => { written with kept := byCount }
  | .clear | .watch | .suspect | .burst | .confirmed => written

/-- The lowest bound slot with a membership in the zone (R22). -/
def State.lowestMember (s : State) (zid : ZoneId) : Option SlotId := (s.memberSet zid).head?.map Prod.fst

/-- The reply of SET-ZONE: the zone's condition after the write (R21). The unconfigure option answers with it too, where R22
names no field (the model's choice, log 16). -/
def Zone.conditionBytes (z : Zone) : List Byte := enc8 z.condition.code

/-- The write option of SET-ZONE (R21). -/
def State.writeZone (s : State) (zid : ZoneId) (x : ZoneSettings) : State :=
  match settingsFault x with
  | some offset => s.refuse .range offset
  | none =>
    let written := (s.modZone zid (·.configure x)).holdEdges s
    written.answer .ok (written.zone zid).conditionBytes

/-- The unconfigure option of SET-ZONE (R22). A zone already UNCONFIGURED in which a bound slot has a membership all the same
is refused INVALID (the model's choice between two clauses of R22, log 42). -/
def State.unconfigureZone (s : State) (zid : ZoneId) : State :=
  match s.lowestMember zid with
  | some m => s.answer .invalid (refusalDetail 0 1 zid.val 2 m.val)
  | none =>
    let done := if (s.zone zid).condition = .unconfigured then s else s.putZone zid resetZone
    done.answer .ok (done.zone zid).conditionBytes

/-- SET-ZONE taken (R21, R22); `option` is 0 write or 1 unconfigure (R183). -/
def State.setZone (s : State) (zone option : Byte) (x : ZoneSettings) : State :=
  if s.mode = .setup then
    match zoneOf zone with
    | none => s.refuse .range 0
    | some zid =>
      if option = 0 then s.writeZone zid x
      else if option = 1 then s.unconfigureZone zid
      else s.refuse .range 1
  else s.refuse .wrongState 0

/-- SET_ZONE (R21); an option byte that is neither write nor unconfigure stands in this row (log 11). -/
def execSetZone (ft zone option : Byte) (settings : ZoneSettings) (s : State) : Result :=
  .next (s.request (.setZone ft zone option settings) fun t => t.setZone zone option settings)

/-- SET_ZONE_UNCONFIGURE (R22). -/
def execSetZoneUnconfigure (ft zone : Byte) (settings : ZoneSettings) (s : State) : Result :=
  .next (s.request (.setZoneUnconfigure ft zone settings) fun t => t.setZone zone 1 settings)

/-- ZONE-GET taken (R23): the finding-lost mark is reported and then cleared. -/
def State.zoneGet (s : State) (zone : Byte) : State :=
  match zoneOf zone with
  | none => s.refuse .range 0
  | some zid => (s.modZone zid fun z => { z with lost := false }).answer .ok (s.zoneGetBytes zid)

/-- ZONE_GET (R23). -/
def execZoneGet (ft zone : Byte) (s : State) : Result := .next (s.request (.zoneGet ft zone) fun t => t.zoneGet zone)

/-- HISTORY-GET taken (R142). -/
def State.historyGet (s : State) (zone : Byte) : State :=
  match zoneOf zone with
  | none => s.refuse .range 0
  | some zid =>
    if (s.zone zid).condition = .unconfigured then s.refuse .noSuch 0
    else s.answer .ok (s.zone zid).historyGetBytes

/-- HISTORY_GET (R142). -/
def execHistoryGet (ft zone : Byte) (s : State) : Result :=
  .next (s.request (.historyGet ft zone) fun t => t.historyGet zone)

/-- HOLD-ZONE taken (R138, R137); `action` is 0 SET or 1 RELEASE (R183). -/
def State.holdZone (s : State) (zone action : Byte) : State :=
  if s.mode = .starting then s.refuse .wrongState 0
  else
    match zoneOf zone with
    | none => s.refuse .range 0
    | some zid =>
      if 1 < action.toNat then s.refuse .range 1
      else if (s.zone zid).condition = .unconfigured then s.refuse .noSuch 0
      else
        let flagged := (s.modZone zid fun z => { z with holdFlag := action = 0 }).holdEdges s
        flagged.answer .ok (flagged.holdBytes zid)

/-- HOLD_ZONE_SET (R138); an action byte that is neither SET nor RELEASE stands in this row (log 11). -/
def execHoldZoneSet (ft zone action : Byte) (s : State) : Result :=
  .next (s.request (.holdZoneSet ft zone action) fun t => t.holdZone zone action)

/-- HOLD_ZONE_RELEASE (R138). -/
def execHoldZoneRelease (ft zone : Byte) (s : State) : Result :=
  .next (s.request (.holdZoneRelease ft zone) fun t => t.holdZone zone 1)

/-- C of the newest history entry that has a C (R140). -/
def Zone.newestCorrected (z : Zone) : Option Int := z.history.findSome? fun h => h.corrected

/-- What CLEAR-ZONE does to the zone (R140): 0 RELEARN, 1 REBASE to c, 2 KEEP. -/
def Zone.cleared (z : Zone) (option : Byte) (c : Int) : Zone :=
  let ended := { z with run := 0, episodes := 0 }
  if option = 0 then { ended with baseline := 0, spread := 0, settling := 0, kept := .settling }
  else if option = 1 then { ended with baseline := c, kept := .clear }
  else { ended with kept := if z.settled then .clear else .settling }

/-- CLEAR-ZONE taken (R139, R140). -/
def State.clearZone (s : State) (zone option : Byte) : State :=
  if s.mode = .starting then s.refuse .wrongState 0
  else
    match zoneOf zone with
    | none => s.refuse .range 0
    | some zid =>
      let z := s.zone zid
      if 2 < option.toNat then s.refuse .range 1
      else if !z.inService then s.refuse .wrongState 0
      else if z.isClosing then s.refuse .busy 0
      else if option = 1 && (!z.settled || z.newestCorrected.isNone) then
        s.answer .invalid (refusalDetail 0 1 zid.val 0 0)
      else
        let done := z.cleared option (z.newestCorrected.getD 0)
        (s.putZone zid done).answer .ok done.clearedBytes

/-- CLEAR_ZONE_RELEARN (R140); an option byte that is none of the three stands in this row (log 11). -/
def execClearZoneRelearn (ft zone option : Byte) (s : State) : Result :=
  .next (s.request (.clearZoneRelearn ft zone option) fun t => t.clearZone zone option)

/-- CLEAR_ZONE_REBASE (R140). -/
def execClearZoneRebase (ft zone : Byte) (s : State) : Result :=
  .next (s.request (.clearZoneRebase ft zone) fun t => t.clearZone zone 1)

/-- CLEAR_ZONE_KEEP (R140). -/
def execClearZoneKeep (ft zone : Byte) (s : State) : Result :=
  .next (s.request (.clearZoneKeep ft zone) fun t => t.clearZone zone 2)

/-- BASELINE-GET taken (R122). -/
def State.baselineGet (s : State) (zone : Byte) : State :=
  match zoneOf zone with
  | none => s.refuse .range 0
  | some zid =>
    if (s.zone zid).condition = .unconfigured then s.refuse .noSuch 0
    else s.answer .ok (s.zone zid).baselineGetBytes

/-- BASELINE_GET (R122). -/
def execBaselineGet (ft zone : Byte) (s : State) : Result :=
  .next (s.request (.baselineGet ft zone) fun t => t.baselineGet zone)

/-- The zone after BASELINE-PUT (R123). -/
def Zone.putBaseline (z : Zone) (b sp : W32) (n : Byte) : Zone :=
  { z with baseline := b.toNat, spread := sp.toNat, settling := n.toNat, run := 0,
           kept := if z.entry.settings.nSettle.toNat ≤ n.toNat then .clear else .settling }

/-- BASELINE-PUT taken (R123). -/
def State.baselinePut (s : State) (zone : Byte) (b sp : W32) (n : Byte) : State :=
  if s.mode = .setup then
    match zoneOf zone with
    | none => s.refuse .range 0
    | some zid =>
      let z := s.zone zid
      if z.condition = .unconfigured then s.refuse .noSuch 0
      else if z.condition = .fault || z.condition = .confirmed then s.refuse .wrongState 0
      else
        match baselineFault b sp n with
        | some offset => s.refuse .range offset
        | none =>
          let done := z.putBaseline b sp n
          (s.putZone zid done).answer .ok done.baselineBytes
  else s.refuse .wrongState 0

/-- BASELINE_PUT (R123). -/
def execBaselinePut (ft zone : Byte) (baseline spread : W32) (settling : Byte) (s : State) : Result :=
  .next (s.request (.baselinePut ft zone baseline spread settling) fun t => t.baselinePut zone baseline spread settling)

end Sys2Proof.Machine
end

