-- ==== Sys2Proof/Machine/Dispatch.lean ====
section
/-! DEFINITION. The meaning of every command: one arm for each row of the opcode table. -/

namespace Sys2Proof.Machine

open Sys2Proof

/-- A command's effect on everything but the queue of waiting commands. -/
def exec (i : Instr) (s : State) : Host.Outcome State Fault Refusal :=
  match i with
  | .secondTick order share => Sys2Proof.Machine.execSecondTick order share s
  | .standstillEnd => Sys2Proof.Machine.execStandstillEnd s
  | .pinChange ch high sinceEdgeMicros => Sys2Proof.Machine.execPinChange ch high sinceEdgeMicros s
  | .statusLevelChange ch => Sys2Proof.Machine.execStatusLevelChange ch s
  | .byteReceived e => Sys2Proof.Machine.execByteReceived e s
  | .frameGapTimeout => Sys2Proof.Machine.execFrameGapTimeout s
  | .replySent => Sys2Proof.Machine.execReplySent s
  | .unknownKind ft kind body => Sys2Proof.Machine.execUnknownKind ft kind body s
  | .powerOn rate1 rate0 => Sys2Proof.Machine.execPowerOn rate1 rate0 s
  | .pinReset rate1 rate0 => Sys2Proof.Machine.execPinReset rate1 rate0 s
  | .statusGet ft => Sys2Proof.Machine.execStatusGet ft s
  | .enterSetup ft => Sys2Proof.Machine.execEnterSetup ft s
  | .leavingPhaseEnd => Sys2Proof.Machine.execLeavingPhaseEnd s
  | .leaveSetup ft => Sys2Proof.Machine.execLeaveSetup ft s
  | .restart ft => Sys2Proof.Machine.execRestart ft s
  | .restartClear => Sys2Proof.Machine.execRestartClear s
  | .setClock ft time => Sys2Proof.Machine.execSetClock ft time s
  | .setGrid ft grid => Sys2Proof.Machine.execSetGrid ft grid s
  | .timeMark ft reference => Sys2Proof.Machine.execTimeMark ft reference s
  | .setZone ft zone option settings => Sys2Proof.Machine.execSetZone ft zone option settings s
  | .setZoneUnconfigure ft zone settings => Sys2Proof.Machine.execSetZoneUnconfigure ft zone settings s
  | .zoneGet ft zone => Sys2Proof.Machine.execZoneGet ft zone s
  | .nightGetSummary ft zone part firstBin => Sys2Proof.Machine.execNightGetSummary ft zone part firstBin s
  | .nightGetVolumes ft zone firstBin => Sys2Proof.Machine.execNightGetVolumes ft zone firstBin s
  | .nightGetPressure ft zone firstBin => Sys2Proof.Machine.execNightGetPressure ft zone firstBin s
  | .historyGet ft zone => Sys2Proof.Machine.execHistoryGet ft zone s
  | .holdZoneSet ft zone action => Sys2Proof.Machine.execHoldZoneSet ft zone action s
  | .holdZoneRelease ft zone => Sys2Proof.Machine.execHoldZoneRelease ft zone s
  | .clearZoneRelearn ft zone option => Sys2Proof.Machine.execClearZoneRelearn ft zone option s
  | .clearZoneRebase ft zone => Sys2Proof.Machine.execClearZoneRebase ft zone s
  | .clearZoneKeep ft zone => Sys2Proof.Machine.execClearZoneKeep ft zone s
  | .baselineGet ft zone => Sys2Proof.Machine.execBaselineGet ft zone s
  | .baselinePut ft zone baseline spread settling => Sys2Proof.Machine.execBaselinePut ft zone baseline spread settling s
  | .stageMeter ft slot binding => Sys2Proof.Machine.execStageMeter ft slot binding s
  | .commitStage ft => Sys2Proof.Machine.execCommitStage ft s
  | .discardStage ft => Sys2Proof.Machine.execDiscardStage ft s
  | .meterGet ft slot => Sys2Proof.Machine.execMeterGet ft slot s
  | .meterRelease ft slot => Sys2Proof.Machine.execMeterRelease ft slot s
  | .setChannel ft ch mode divider gateLine timing restartMode => Sys2Proof.Machine.execSetChannel ft ch mode divider gateLine timing restartMode s
  | .channelGet ft ch => Sys2Proof.Machine.execChannelGet ft ch s
  | .gateChannelSet ft ch action => Sys2Proof.Machine.execGateChannelSet ft ch action s
  | .gateChannelRelease ft ch => Sys2Proof.Machine.execGateChannelRelease ft ch s
  | .reading ft slot tag pair => Sys2Proof.Machine.execReading ft slot tag pair s
  | .readingBatch ft slot tag pairs => Sys2Proof.Machine.execReadingBatch ft slot tag pairs s
  | .readingPair => Sys2Proof.Machine.execReadingPair s
  | .captureRecord ch => Sys2Proof.Machine.execCaptureRecord ch s
  | .resumeRecord ch => Sys2Proof.Machine.execResumeRecord ch s
  | .intakeItemEnd order => Sys2Proof.Machine.execIntakeItemEnd order s
  | .pressure ft zone time value => Sys2Proof.Machine.execPressure ft zone time value s
  | .setPressureTable ft entries => Sys2Proof.Machine.execSetPressureTable ft entries s
  | .pressureTableQuery ft => Sys2Proof.Machine.execPressureTableQuery ft s
  | .analyserTakeZone pick => Sys2Proof.Machine.execAnalyserTakeZone pick s
  | .nightAnalysisEnd => Sys2Proof.Machine.execNightAnalysisEnd s
  | .findingsTake ft n => Sys2Proof.Machine.execFindingsTake ft n s
  | .attnGet ft => Sys2Proof.Machine.execAttnGet ft s
  | .attnClear ft flags => Sys2Proof.Machine.execAttnClear ft flags s
  | .attnEnable ft mask => Sys2Proof.Machine.execAttnEnable ft mask s
  | .entryRaw ft kind number => Sys2Proof.Machine.execEntryRaw ft kind number s
  | .checkPass ft => Sys2Proof.Machine.execCheckPass ft s
  | .checkPassVerify => Sys2Proof.Machine.execCheckPassVerify s
  | .resetPinLow => Sys2Proof.Machine.execResetPinLow s

end Sys2Proof.Machine
end

