-- ==== Sys2Proof/Safety.lean ====
section
/-! DEFINITION. What the statements about the block are written with: when a request can be taken, the state a reply leaves,
and the invariants of the block (the bounds of its lists and counts, where night records may stand, and what a channel's
state says about its mode and gate record, the meter table, the capture lists, and how CONFIRMED is left), and what a
point of a meter does to the open night records. -/

namespace Sys2Proof.Safety

open Sys2Proof Sys2Proof.Machine

/-! ## Requests and replies -/

/-- The request whose frame is `f` can be taken: the RESET pin is high, and the link holds no request, or holds this one
waiting for its owner (R179, R188). -/
def Free (s : State) (f : Frame) : Prop :=
  s.link.resetLow = false ∧ (s.link.hand = none ∨ s.link.hand = some { frame := f, phase := .waiting })

/-- The reply to frame `f` that state s forms (R176, R178, R180). -/
def replyOf (s : State) (f : Frame) (st : Status) (body : List Byte) : Reply :=
  { tag := f.tag, kind := f.kind ||| 0x80, status := st, dropped := s.link.dropped, attn := s.attnLine, body := body }

/-- State s with the reply to frame `f` being sent and the dropped mark clear, and nothing else changed. -/
def replied (s : State) (f : Frame) (st : Status) (body : List Byte) : State :=
  { s with link := { s.link with hand := some { frame := f, phase := .sending (replyOf s f st body) }, dropped := false } }

/-- State s with frame `f` as the request in hand and its owner at work, and nothing else changed. -/
def working (s : State) (f : Frame) : State :=
  { s with link := { s.link with hand := some { frame := f, phase := .working } } }

/-- A refusal detail that names an item and no subjects (R182). -/
def itemOnly (item : Byte) : List Byte := [item, 0, 0, 0, 0]

/-! ## Permitted values, as the manual's tables list them

Each `…Item` gives the offset, in the request body, of the first field outside its permitted values, or none (R182). -/

/-- The six settings of SET-GRID (1.4, R8, R183): the first that fails, by the offset of its field. -/
def gridItem (f : GridFields) : Option Byte :=
  let i := f.interval.toNat
  let start := f.windowStart.toNat
  let length := f.windowLength.toNat
  let delay := f.closeDelay.toNat
  if ¬(i = 5 ∨ i = 10 ∨ i = 15 ∨ i = 20 ∨ i = 30) then some 0
  else if ¬(start ≤ 86399 ∧ start % (i * 60) = 0) then some 1
  else if ¬(60 ≤ length ∧ length ≤ 480 ∧ length % i = 0 ∧ 60 / i ≤ length / i ∧ length / i ≤ 32) then some 5
  else if ¬(60 ≤ delay ∧ delay ≤ 1200 ∧ delay % i = 0 ∧ length + delay ≤ 1320) then some 7
  else if ¬(900 ≤ f.spanLimit.toNat ∧ f.spanLimit.toNat ≤ 86400) then some 9
  else if ¬(1 ≤ f.trimStep.toNat ∧ f.trimStep.toNat ≤ 4) then some 13
  else none

/-- A flow setting (2.3). -/
abbrev FlowField (w : W32) : Prop := w.toNat ≤ 2000000000

/-- A small setting between two bounds (2.3). -/
abbrev Within (lo hi : Nat) (b : Byte) : Prop := lo ≤ b.toNat ∧ b.toNat ≤ hi

/-- The settings of SET-ZONE (2.3, R21, R183): the first that fails, by the offset of its field. -/
def zoneItem (x : ZoneSettings) : Option Byte :=
  if ¬FlowField x.lz then some 2
  else if ¬(100 ≤ x.pref.toNat ∧ x.pref.toNat ≤ 20000) then some 6
  else if ¬Within 0 1 x.correction then some 8
  else if ¬FlowField x.tfloor then some 9
  else if ¬Within 1 32 x.multiplier then some 13
  else if ¬(x.tfloor.toNat < x.tburst.toNat ∧ FlowField x.tburst) then some 14
  else if ¬FlowField x.balance then some 18
  else if ¬Within 1 8 x.kNights then some 22
  else if ¬(Within 1 8 x.mNights ∧ x.kNights.toNat ≤ x.mNights.toNat) then some 23
  else if ¬Within 1 7 x.rClear then some 24
  else if ¬Within 0 7 x.lLatch then some 25
  else if ¬Within 3 30 x.nSettle then some 26
  else if ¬Within 2 6 x.shift then some 27
  else if ¬(x.holdLine = 0xFF ∨ x.holdLine.toNat ≤ 15) then some 28
  else none

/-- The binding of STAGE-METER (R25, R183, R185): the first field that fails, by its offset in the body. -/
def bindingItem (b : MeterBinding) : Option Byte :=
  if 2 < b.source.toNat then some 1
  else if b.source = 0 then none
  else if b.tag = 0 then some 3
  else if ¬(1 ≤ b.volume.toNat ∧ b.volume.toNat ≤ 1000000) then some 7
  else if ¬(1 ≤ b.qmax.toNat ∧ b.qmax.toNat ≤ 1000000) then some 12
  else if b.source = 1 ∧ ¬(4 ≤ b.digits.toNat ∧ b.digits.toNat ≤ 9) then some 11
  else if b.source = 2 ∧ 15 < b.channel.toNat then some 2
  else if 2 < b.count.toNat then some 16
  else if 1 ≤ b.count.toNat ∧ 47 < b.zone1.toNat then some 17
  else if 1 ≤ b.count.toNat ∧ 1 < b.dir1.toNat then some 18
  else if b.count = 2 ∧ 47 < b.zone2.toNat then some 19
  else if b.count = 2 ∧ 1 < b.dir2.toNat then some 20
  else if b.count = 2 ∧ b.zone1 = b.zone2 then some 19
  else none

/-- The fields of SET-CHANNEL for channel x (R49, R183): the first that fails, by its offset in the body. -/
def channelItem (x : ChanId) (mode divider gateLine timing restartMode : Byte) : Option Byte :=
  if 2 < mode.toNat then some 1
  else if ¬(divider = 1 ∨ divider = 4 ∨ divider = 16) then some 2
  else if ¬(gateLine = 0xFF ∨ (gateLine.toNat ≤ 15 ∧ gateLine.toNat ≠ x.val)) then some 3
  else if 1 < timing.toNat then some 4
  else if 1 < restartMode.toNat then some 5
  else none

/-! ## Bounds -/

/-- A flow that B, S and C may hold (R105, R121). -/
def FlowOk (x : Int) : Prop := 0 ≤ x ∧ x ≤ 2147483647

/-- The pressure fields of a bin (5.1, R83). -/
def BinOk (b : Bin) : Prop := b.pressureCount ≤ 255 ∧ b.pressureSum ≤ 20000 * b.pressureCount

/-- The law of a zone's memory (5.1, 7.1, R21, R80, R83, R119, R121, R126, R128). A count of 30 is settled under every N_settle
(R118). -/
structure ZoneBounds (z : Zone) : Prop where
  historyLength : z.history.length ≤ 8
  historyOrder : z.history.Pairwise fun newer older => older.night < newer.night
  historyFlows : ∀ h ∈ z.history, ∀ c, h.corrected = some c → FlowOk c
  baseline : FlowOk z.baseline
  spread : FlowOk z.spread
  nSettle : z.entry.settings.nSettle.toNat ≤ 30
  settling : z.settling ≤ 30
  settlingBelow : z.kept = .settling → z.settling < 30
  bins : ∀ r, z.record = some r → ∀ b ∈ r.bins, BinOk b
  run : z.run ≤ 7
  episodes : z.episodes ≤ 15

/-- The laws of the block's lists and counts (5.1, 7.1, R1, R8, R10, R12, R24, R45, R67, R97, R119, R121, R126, R128, R144,
R178). -/
structure Bounds (s : State) : Prop where
  partTime : s.time.partTime ≤ 4294967295
  pendingTrim : -600 ≤ s.time.pendingTrim ∧ s.time.pendingTrim ≤ 600
  trimStep : s.time.grid.trimStep ≤ 4
  standstill : s.time.standstill ≤ 4
  stage : s.stage.bindings.length ≤ 8
  stageSlots : (s.stage.bindings.map (·.slot)).Nodup
  capture : ∀ c, (s.channel c).list.length ≤ 4
  doubt : ∀ m, (s.meter m).doubt ≤ 3
  zones : ∀ z, ZoneBounds (s.zone z)
  analysing : ∀ a, s.analyser.analysing = some a → a.settings.nSettle.toNat ≤ 30
  findings : s.findings.length ≤ 32
  input : s.link.queue.length ≤ 2

/-! ## What a point does to the open night records

`g` is the grid, `night` the night of the record, `k` a bin. -/

/-- Bin k of the night and the time [a, b) share a second (R77). -/
def BinOverlaps (g : Grid) (night k a b : Nat) : Prop :=
  k < g.binCount ∧ max a (g.binStart night k) < min b (g.binStart night (k + 1))

/-- Bin k lies in the hole between a member's coverage and the start t0 of its next span (R78). -/
def InHole (g : Grid) (night : Nat) (e : Member) (t0 k : Nat) : Prop :=
  g.ws night < t0 ∧
    ((e.reach = none ∧ BinOverlaps g night k (g.ws night) (min t0 (g.we night))) ∨
      ∃ x, e.reach = some x ∧ x < t0 ∧ BinOverlaps g night k (max (g.ws night) x) (min t0 (g.we night)))

/-- What a point puts into gap sets: whether it adds bin k to the member entry of a night's record. -/
abbrev Gap := Nat → Member → Nat → Prop

/-- A first reading at t1, or a re-anchoring there (R63, R68). -/
def firstGap (g : Grid) (t1 : Nat) : Gap := fun night _ k =>
  g.ws night < t1 ∧ BinOverlaps g night k (g.ws night) (min t1 (g.we night))

/-- A span that is a gap, with the hole before it (R66, R67, R69, R78). -/
def spanGap (g : Grid) (t0 t1 : Nat) : Gap := fun night e k => InHole g night e t0 k ∨ BinOverlaps g night k t0 t1

/-- The hole before an apportioned span (R78). -/
def holeGap (g : Grid) (t0 : Nat) : Gap := fun night e k => InHole g night e t0 k

/-- The withheld gap of a RESUME record (R62). -/
def resumeGap (g : Grid) (start stop : Nat) : Gap := fun night _ k => BinOverlaps g night k start stop

/-- The share of bin k in a span's volume (R72, R73). -/
def shareOf (g : Grid) (volume t0 t1 night k : Nat) : Nat :=
  let o := fun j => min t1 (g.binStart night (j + 1)) - max t0 (g.binStart night j)
  if t0 = t1 then if g.binStart night k ≤ t1 ∧ t1 < g.binStart night (k + 1) then volume else 0
  else
    volume * ((List.range (k + 1)).map o).sum / (t1 - t0) - volume * ((List.range k).map o).sum / (t1 - t0)

/-- A net volume with a share of a membership's direction added, saturated (R74). -/
def addShare (d : Dir) (volume : Int) (share : Nat) : Int :=
  max (-9223372036854775807)
    (min 9223372036854775807 (volume + match d with | .inward => (share : Int) | .outward => -(share : Int)))

/-- Member entry e, and e' after a point of slot m that brings its coverage to `reach` and adds the bins of `gap` to its gap
set (R76, R77). Another slot's entry is unchanged. -/
def MemberTakes (m : SlotId) (reach : Nat) (gap : Member → Nat → Prop) (e e' : Member) : Prop :=
  (e.slot ≠ m → e' = e) ∧
    (e.slot = m → e'.slot = m ∧ e'.dir = e.dir ∧ e'.reach = some (max (e.reach.getD 0) reach) ∧
      ∀ k, k < 32 → (e'.gaps.getLsbD k = true ↔ (e.gaps.getLsbD k = true ∨ gap e k)))

/-- Record r, and r' after a point at t1 of slot m, a member with direction d: the member entries (R76, R77), and the shares
that an apportioned point adds to the bins (R72 to R74). -/
structure RecordTakes (g : Grid) (m : SlotId) (d : Dir) (t1 : Nat) (gap : Gap) (share : Option (Nat → Nat → Nat))
    (r r' : NightRecord) : Prop where
  rest : r' = { r with members := r'.members, bins := r'.bins }
  members : List.Forall₂ (MemberTakes m (min t1 (g.we r.night)) (gap r.night)) r.members r'.members
  gathered : share = none → r'.bins = r.bins
  shared : ∀ v, share = some v → r.bins.length = g.binCount → r'.bins.length = r.bins.length ∧
    ∀ (k : Nat) (b : Bin), r.bins[k]? = some b →
      r'.bins[k]? = some { b with volume := addShare d b.volume (v r.night k) }

/-- States s and t before and after a point at t1 of slot m, whose memberships lie in distinct zones (R19): the record of each
of them that `accepts` holds of takes the point, no other zone changes, and the intake notes the zones changed (R56, R71). -/
structure ZonesTake (s t : State) (m : SlotId) (accepts : ZoneId → NightRecord → Prop) (t1 : Nat) (gap : Gap)
    (share : Option (Nat → Nat → Nat)) : Prop where
  others : ∀ z, ((∀ q ∈ (s.meter m).members, q.1 ≠ z) ∨ ∀ r, (s.zone z).record = some r → ¬accepts z r) →
    t.zone z = s.zone z
  takes : ∀ q ∈ (s.meter m).members, ∀ r, (s.zone q.1).record = some r → accepts q.1 r →
    ∃ r', t.zone q.1 = { s.zone q.1 with record := some r' } ∧ RecordTakes s.time.grid m q.2 t1 gap share r r'
  noted : ∀ z, z ∈ t.intake.touched ↔ (z ∈ s.intake.touched ∨ t.zone z ≠ s.zone z)

/-- The records that accept points (R71). -/
def Accepting (_z : ZoneId) (r : NightRecord) : Prop := r.state ≠ .closing

/-- Part of the apportioned span [t0, t1) of slot m is dropped as late: it overlaps the window of a CLOSING record of one of
its zones, or of a night before the open one (R71, R75). -/
def Late (s : State) (m : SlotId) (t0 t1 : Nat) : Prop :=
  ∃ q ∈ (s.meter m).members, ∃ r, (s.zone q.1).record = some r ∧
    ((r.state = .closing ∧ max t0 (s.time.grid.ws r.night) < min t1 (s.time.grid.we r.night)) ∨
      ∃ n, n < r.night ∧ s.time.grid.ws n < t1 ∧ t0 < s.time.grid.we n)

/-- Slot m as the intake reads it in state s (R55, R61, R62): its state, and the nights of the accepting records of its
zones. -/
def ReadAs (s : State) (m : SlotId) (tk : TakenSlot) : Prop :=
  tk.slot = m ∧ tk.state = (s.meter m).state ∧
    ∀ z n, (z, n) ∈ tk.nights ↔
      ((∃ q ∈ (s.meter m).members, q.1 = z) ∧ ∃ r, (s.zone z).record = some r ∧ r.night = n ∧ r.state ≠ .closing)

/-- States s and t before and after a pulse point (t1, c) of slot m, read in state `st` when the intake took the record (R55,
R63 to R70, R73). A slot that has become FAULTED since stays FAULTED (log 7); a LIVE or DOUBTFUL slot without a last point,
which no run reaches, is anchored as by a re-anchoring (log 28). -/
def PulsePointTaken (s t : State) (m : SlotId) (st : SlotState) (accepts : ZoneId → NightRecord → Prop) (t1 : Nat)
    (c : W32) : Prop :=
  let x := s.meter m
  let g := s.time.grid
  let anchored := { x with lastPoint := some ⟨t1, c⟩ }
  let becomes := fun new : SlotState => if x.state = .faulted then SlotState.faulted else new
  t = { s with meters := t.meters, zones := t.zones, findings := t.findings, attn := t.attn,
               intake := { s.intake with touched := t.intake.touched } } ∧
    (∀ k, k ≠ m → t.meter k = s.meter k) ∧
    ((st = .awaiting ∨ x.lastPoint = none ∨ ∃ q, x.lastPoint = some q ∧ t1 < q.time) →
      ZonesTake s t m accepts t1 (firstGap g t1) none ∧ t.findings = s.findings ∧ t.attn = s.attn ∧
      t.meter m = (if st = .awaiting then { anchored with state := becomes .live, doubt := 0 } else anchored)) ∧
    (∀ q, x.lastPoint = some q → q.time ≤ t1 → st = .doubtful →
      ZonesTake s t m accepts t1 (spanGap g q.time t1) none ∧ t.findings = s.findings ∧ t.attn = s.attn ∧
      t.meter m = anchored) ∧
    (∀ (q : Point) (volume : Nat), x.lastPoint = some q → q.time ≤ t1 → st = .live →
      volume = (c - q.value).toNat * x.binding.volume.toNat →
      (q.time < t1 → x.binding.qmax.toNat * (t1 - q.time) + x.binding.volume.toNat < volume →
        ZonesTake s t m accepts t1 (spanGap g q.time t1) none ∧
        (x.doubt < 2 → t.findings = s.findings ∧ t.attn = s.attn ∧ t.meter m = { anchored with doubt := x.doubt + 1 }) ∧
        (2 ≤ x.doubt → t.findings = (s.offer ⟨.meterDoubt, .meter m, none, none, none⟩).findings ∧
          t.attn = (s.offer ⟨.meterDoubt, .meter m, none, none, none⟩).attn ∧
          t.meter m = { anchored with state := becomes .doubtful, doubt := 3,
                                      lost := x.lost || decide (32 ≤ s.findings.length) })) ∧
      ((q.time = t1 ∨ volume ≤ x.binding.qmax.toNat * (t1 - q.time) + x.binding.volume.toNat) →
        ZonesTake s t m accepts t1 (holeGap g q.time) (some (shareOf g volume q.time t1)) ∧
        t.findings = s.findings ∧ t.attn = s.attn ∧
        t.meter m = (if q.time < t1 then { anchored with doubt := 0 } else anchored)))

/-- States s and t before and after a capture record is handled for slot m (R61, R62): a point, and for a RESUME record the
withheld gap after it. -/
def RecordHandled (s t : State) (m : SlotId) (st : SlotState) (accepts : ZoneId → NightRecord → Prop) : Capture → Prop
  | .pulse t1 c => PulsePointTaken s t m st accepts t1 c
  | .boundary t1 c => PulsePointTaken s t m st accepts t1 c
  | .resume start c stop c' =>
    ∃ u, PulsePointTaken s u m st accepts start c ∧
      t = { u with meters := t.meters, zones := t.zones, intake := { u.intake with touched := t.intake.touched } } ∧
      (∀ k, k ≠ m → t.meter k = u.meter k) ∧ t.meter m = { u.meter m with lastPoint := some ⟨stop, c'⟩ } ∧
      ZonesTake u t m accepts stop (resumeGap u.time.grid start stop) none

/-! ## Records and modes -/

/-- Outside RUN no zone has an open night record, and no capture list holds a record (R52, R158). -/
structure OnlyInRun (s : State) : Prop where
  records : s.mode ≠ .run → ∀ z, (s.zone z).record = none
  captures : s.mode ≠ .run → ∀ c, (s.channel c).list = []

/-- The open night records of RUN (R91, R106, R158): a zone in service has one, of a night on the grid and with a bin for each
interval of the window, until the last night on the grid has been closed; a zone not in service has none. The condition kept
of an unmarked entry agrees with its configured byte (R20). -/
structure RecordLaw (s : State) : Prop where
  agrees : ∀ z, (s.zone z).mark = false → (s.zone z).entry.configured = 0 → (s.zone z).kept = .unconfigured
  outOfService : ∀ z, (s.zone z).inService = false → (s.zone z).record = none
  inService : s.mode = .run → ∀ z, (s.zone z).inService = true →
    (∃ r, (s.zone z).record = some r ∧ s.time.grid.deadline r.night ≤ 4294967295 ∧
      r.bins.length = s.time.grid.binCount) ∨
    ((s.zone z).record = none ∧
      ∃ c, (s.zone z).lastClose = some c ∧ 4294967295 < s.time.grid.deadline (c.night + 1))

/-- The commands through which a zone may leave CONFIRMED without an entry fault (R135). -/
def leavesConfirmed : Instr → Bool
  | .clearZoneRelearn _ _ _ => true
  | .clearZoneRebase _ _ => true
  | .clearZoneKeep _ _ => true
  | .setZoneUnconfigure _ _ _ => true
  | .setZone _ _ option _ => option = 1
  | .powerOn _ _ => true
  | .pinReset _ _ => true
  | _ => false

/-! ## The meter table -/

/-- The law of R19 for a table of bindings (none: the slot is unbound). -/
structure TableOk (table : SlotId → Option MeterBinding) : Prop where
  tags : ∀ m k b c, table m = some b → table k = some c → b.tag = c.tag → m = k
  channels : ∀ m k b c, table m = some b → table k = some c → b.source = 2 → c.source = 2 → b.channel = c.channel →
    m = k
  distinct : ∀ m b, table m = some b → (memberships b).length ≤ 2 ∧ ((memberships b).map (·.1)).Nodup
  members : ∀ z, ((List.finRange 128).countP fun m =>
    match table m with
    | some b => (memberships b).any fun q => q.1 = z
    | none => false) ≤ 12

/-- The table as it stands. -/
def tableOf (s : State) (m : SlotId) : Option MeterBinding :=
  if (s.meter m).state = .unbound then none else some (s.meter m).binding

/-- The meter table obeys the law of R19, and so does the table a pending commit would make of it; a staged binding names no
zone twice (R25, R27). -/
structure MeterTableLaw (s : State) : Prop where
  table : TableOk (tableOf s)
  staged : ∀ p ∈ s.stage.bindings, p.binding.source ≠ 0 → ((memberships p.binding).map (·.1)).Nodup
  committed : s.stage.commitPending = true → TableOk s.resulting

/-! ## Channels -/

/-- The time of a capture record (R45). -/
def captureTime : Capture → Nat
  | .pulse t _ => t
  | .boundary t _ => t
  | .resume _ _ r _ => r

/-- The capture lists in time (R45): times never decrease and never pass part time, the g of a RESUME record is no earlier
than any older record, and no record is later than the gate record of its channel. An event in delivery is at part time. -/
structure CaptureLaw (s : State) : Prop where
  delivery : ∀ w, s.time.boundary = some w → w.event.time = s.time.partTime
  order : ∀ x, (s.channel x).list.Pairwise fun older newer => captureTime older ≤ captureTime newer
  resumes : ∀ x, (s.channel x).list.Pairwise fun older newer =>
    ∀ g cg r cr, newer = .resume g cg r cr → captureTime older ≤ g
  past : ∀ x, ∀ r ∈ (s.channel x).list, captureTime r ≤ s.time.partTime
  gates : ∀ x g cg, (s.channel x).gateRecord = some (g, cg) →
    g ≤ s.time.partTime ∧ ∀ r ∈ (s.channel x).list, captureTime r ≤ g

/-- A channel's state follows from its mode, and its gate record is present in GATED and RELEASE-WAIT alone (R36). -/
structure ChannelLaw (c : Channel) : Prop where
  off : c.mode = .off ↔ c.state = .off
  status : c.mode = .status ↔ c.state = .status
  gateRecord : c.gateRecord.isSome ↔ (c.state = .gated ∨ c.state = .releaseWait)

/-- Every channel keeps the law of R36. -/
def ChannelsLawful (s : State) : Prop := ∀ c, ChannelLaw (s.channel c)

end Sys2Proof.Safety
end

