-- ==== Sys2Proof/Certificates/Slice0/Obligations.lean ====
section
/-! DEFINITION. The statements about the block. In a statement about a request, f is the frame of the request (R183), and
`Free s f` says that it can be taken in state s: the RESET pin is high and the link holds no request, or holds this one
waiting for its owner. -/

open Sys2Proof Sys2Proof.Machine Sys2Proof.Safety

/-! ## The step -/

/-- One step takes the command at the front of the queue and carries it out with the rest of the queue waiting.
The queue is the model's own (log 1). -/
def Obligations.StepTakesFrontCommand : Prop :=
  ∀ (c : Instr) (rest : List Instr) (s : State), s.pending = c :: rest → step s = exec c { s with pending := rest }

/-- With no command waiting the block idles: with no boundary event in delivery nothing changes, and an event in delivery
comes to its end, as with the rest of its second. Both are the model's choices (logs 1 and 30). -/
def Obligations.StepOnEmptyQueue : Prop :=
  ∀ s : State, s.pending = [] →
    (s.time.boundary = none → step s = .next s) ∧ step s = exec (.secondTick [] .rest) s

/-! ## Time base -/

/-- R1 away from interval boundaries, and the tick that ends a standstill (R12): here with no boundary event in delivery. That
the divider's position is 0 at a second's start is the model's (log 3); that STANDSTILL_END is the last tick of a standstill
and has no effect otherwise is logs 2 and 4. A second may be taken in shares (log 30): more or the rest of one that has begun
no boundary event has no effect (log 2), and a start followed by the rest is the whole second, whatever the division. -/
def Obligations.TickAwayFromBoundaries : Prop :=
  (∀ (order : List BoundaryPart) (share : SecondShare) (s : State), s.time.boundary = none →
    ((share = .whole ∨ share = .start) →
      (0 < s.time.standstill → exec (.secondTick order share) s =
        .next { s with time := { s.time with standstill := s.time.standstill - 1, divider := 0 } }) ∧
      (s.time.standstill = 0 → s.time.partTime = 4294967295 → exec (.secondTick order share) s =
        .next { s with time := { s.time with divider := 0 } }) ∧
      (s.time.standstill = 0 → s.time.partTime < 4294967295 →
        (s.time.partTime + 1) % (s.time.grid.interval * 60) ≠ 0 → exec (.secondTick order share) s =
        .next { s with time := { s.time with partTime := s.time.partTime + 1, divider := 0 } })) ∧
    ((share = .more ∨ share = .rest) → exec (.secondTick order share) s = .next s) ∧
    (s.time.standstill = 1 → exec .standstillEnd s =
      .next { s with time := { s.time with standstill := 0, divider := 0 } }) ∧
    (s.time.standstill ≠ 1 → exec .standstillEnd s = .next s)) ∧
  (∀ (order : List BoundaryPart) (s : State), ∃ u, exec (.secondTick order .start) s = .next u ∧
    ∀ order' : List BoundaryPart,
      exec (.secondTick order' .rest) u = exec (.secondTick (order ++ order') .whole) s ∧
      exec (.secondTick order' .more) u = exec (.secondTick (order ++ order') .start) s)

/-- A tick that makes part time a multiple of I × 60, at boundary time b: the event it raises, with its interval number and
grid mark (R3, R6); what the whole of it does to the time base (R11, R12, R13) and to the scrub (R153: 16 verifications in RUN
from the scrub pointer on, in ascending order and wrapping; the pointer advances by 16); and the pending commit (R29, R56):
applied when the intake holds no item, due at the item's end otherwise, in any mode (log 37). -/
def Obligations.BoundaryTickTrims : Prop :=
  ∀ (order : List BoundaryPart) (s v : State) (b step : Nat), s.time.boundary = none → s.time.standstill = 0 →
    s.time.partTime < 4294967295 → b = s.time.partTime + 1 → b % (s.time.grid.interval * 60) = 0 →
    step = min s.time.pendingTrim.natAbs s.time.grid.trimStep →
    v = (if s.mode = .run then
        s.verifyAll ((List.range 16).map fun i => entryOf (s.checker.scrub + Fin.ofNat 176 i))
      else s) →
    (∃ t, exec (.secondTick order .whole) s = .next t ∧
      t = { s with time := t.time, zones := t.zones, meters := t.meters, stage := t.stage, channels := t.channels,
                   analyser := t.analyser, findings := t.findings, checker := t.checker, attn := t.attn } ∧
      t.checker = (if s.mode = .run then { s.checker with scrub := s.checker.scrub + 16 } else s.checker) ∧
      (0 < s.time.pendingTrim → t.time =
        { s.time with partTime := min (b + step) 4294967295, pendingTrim := s.time.pendingTrim - step, divider := 0 }) ∧
      (s.time.pendingTrim < 0 → t.time =
        { s.time with partTime := b, standstill := step, pendingTrim := s.time.pendingTrim + step, divider := 0 }) ∧
      (s.time.pendingTrim = 0 → t.time = { s.time with partTime := b, divider := 0 }) ∧
      (s.stage.commitPending = false → t.stage = s.stage ∧ t.meters = v.meters ∧ t.findings = v.findings ∧
        t.analyser = v.analyser ∧ (∀ z, { t.zone z with record := none } = { v.zone z with record := none }) ∧
        (s.time.grid.markAt b = none → t.zones = v.zones)) ∧
      (s.stage.commitPending = true → (∀ e, s.entryMatches e = true) →
        (s.intake.hand = .idle → t.stage = { bindings := [], commitPending := false, due := false } ∧
          t.meters = s.applyCommit.meters ∧ (s.time.grid.markAt b = none → t.zones = s.applyCommit.zones)) ∧
        (s.intake.hand ≠ .idle → t.stage = { s.stage with due := true } ∧ t.meters = s.meters ∧
          (s.time.grid.markAt b = none → t.zones = s.zones)))) ∧
    (∀ (e : BoundaryEvent) (w : BoundaryWork),
      e = { time := b, interval := b % 86400 / (s.time.grid.interval * 60), mark := s.time.grid.markAt b } →
      w = { event := e, channels := List.finRange 16, stage := true, analyser := true, verifies := 16 } →
      exec (.secondTick [] .start) s =
        .next { s with time := { s.time with partTime := b, divider := 0, boundary := some w } }) ∧
    (gridFault s.time.grid = none → ∀ n : Nat,
      (s.time.grid.markAt b = some (.windowStart n) ↔ b = s.time.grid.ws n) ∧
      (s.time.grid.markAt b = some (.windowEnd n) ↔ b = s.time.grid.we n) ∧
      (s.time.grid.markAt b = some (.deadline n) ↔ b = s.time.grid.deadline n))

/-- The channels at a boundary event of time b (R41, R43): in RUN a COUNTING or GATE-PENDING channel posts its BOUNDARY
record, and a GATE-PENDING channel becomes GATED in every mode; a record due to a full list raises CAPTURE-LOST (R48). The
part of a channel may be worked in the first share of the second or be left for later (log 30), and a pulse of the same second
falls before it or after it: with room for both, the records then stand in that order (R43). -/
def Obligations.BoundaryTickPostsRecords : Prop :=
  ∀ (s : State) (b : Nat), s.time.boundary = none → s.time.standstill = 0 →
    s.time.partTime < 4294967295 → b = s.time.partTime + 1 → b % (s.time.grid.interval * 60) = 0 →
    (∀ (order : List BoundaryPart) (share : SecondShare), (share = .whole ∨ share = .start) →
      ∃ t, exec (.secondTick order share) s = .next t ∧
        (∀ (x : ChanId) (posted : Channel), (share = .whole ∨ .channel x ∈ order) →
          posted = (if s.mode = .run then
              { s.channel x with list := postTo (s.channel x).list (.boundary b (s.channel x).tally)
                                 overflow := (s.channel x).overflow || decide (4 ≤ (s.channel x).list.length) }
            else s.channel x) →
          ((s.channel x).state = .counting → t.channel x = posted) ∧
          ((s.channel x).state = .gatePending →
            t.channel x = { posted with state := .gated, gateRecord := some (b, (s.channel x).tally) }) ∧
          ((s.channel x).state ≠ .counting → (s.channel x).state ≠ .gatePending → t.channel x = s.channel x)) ∧
        (∀ x : ChanId, share = .start → .channel x ∉ order → t.channel x = s.channel x) ∧
        (∀ x : ChanId, (share = .whole ∨ .channel x ∈ order) → s.mode = .run →
          ((s.channel x).state = .counting ∨ (s.channel x).state = .gatePending) →
          4 ≤ (s.channel x).list.length → t.attn.latched &&& 0x10 = 0x10)) ∧
    (∀ (x : ChanId) (micros : Nat) (c : Channel), c = s.channel x → s.mode = .run → c.mode = .count →
      c.state = .counting → c.pinHigh = true → (c.edgeCounted = false ∨ 20000 ≤ micros) → c.divider ≤ c.phase + 1 →
      c.list.length ≤ 2 →
      (∃ u v t, exec (.secondTick [] .start) s = .next u ∧ exec (.pinChange x false micros) u = .next v ∧
        exec (.secondTick [] .rest) v = .next t ∧
        (t.channel x).list = c.list ++ [.pulse b (c.tally + 1), .boundary b (c.tally + 1)]) ∧
      (∃ u v t, exec (.secondTick [.channel x] .start) s = .next u ∧ exec (.pinChange x false micros) u = .next v ∧
        exec (.secondTick [] .rest) v = .next t ∧
        (t.channel x).list = c.list ++ [.boundary b c.tally, .pulse b (c.tally + 1)]))

/-- The night records at a boundary event of time b, with no commit pending and every entry matching its code (R6, R92,
R93, R95): WINDOW-START, WINDOW-END and DEADLINE move the records of their night, and no other boundary moves any. In a share
of the second that leaves the analyser its part, no record moves (log 30). -/
def Obligations.BoundaryTickMovesRecords : Prop :=
  ∀ (order : List BoundaryPart) (share : SecondShare) (s : State) (b : Nat), s.time.boundary = none → s.time.standstill = 0 →
    s.time.partTime < 4294967295 → b = s.time.partTime + 1 → b % (s.time.grid.interval * 60) = 0 →
    (share = .whole ∨ share = .start) → gridFault s.time.grid = none → s.stage.commitPending = false → (∀ e, s.entryMatches e = true) →
    ∃ t, exec (.secondTick order share) s = .next t ∧
      (∀ z, share = .start → .analyser ∉ order → (t.zone z).record = (s.zone z).record) ∧
      ∀ (z : ZoneId) (r : NightRecord), (share = .whole ∨ .analyser ∈ order) → (s.zone z).record = some r →
        (b = s.time.grid.ws r.night → r.state = .waiting →
          (t.zone z).record = some { r with state := .collecting, held := r.held || s.holdActive z }) ∧
        (b = s.time.grid.we r.night → r.state = .collecting → (t.zone z).record = some { r with state := .draining }) ∧
        (b = s.time.grid.deadline r.night → r.state = .draining →
          (t.zone z).record = some { r with state := .closing }) ∧
        ((b ≠ s.time.grid.ws r.night ∨ r.state ≠ .waiting) → (b ≠ s.time.grid.we r.night ∨ r.state ≠ .collecting) →
          (b ≠ s.time.grid.deadline r.night ∨ r.state ≠ .draining) → (t.zone z).record = some r)

/-- SET-CLOCK (R9), with the re-dating of gate records (R44). An event still in delivery comes to its end first, as with the
rest of its second (log 30); `u` is the state that leaves, which is s itself with none in delivery. -/
def Obligations.SetClockSetsPartTime : Prop :=
  ∀ (ft : Byte) (time : W32) (s : State) (f : Frame), encodeRequest (.setClock ft time) = some f → Free s f →
    (s.mode = .setup → ∃ u, exec (.secondTick [] .rest) s = .next u ∧ (s.time.boundary = none → u = s) ∧
      exec (.setClock ft time) s = .next (replied
        { u.mapChannels (fun _ c => { c with gateRecord := c.gateRecord.map fun _ => (time.toNat, c.tally) }) with
          time := { u.time with partTime := time.toNat, pendingTrim := 0, standstill := 0, divider := 0 } }
        f .ok (be32 time))) ∧
    (s.mode ≠ .setup → exec (.setClock ft time) s = .next (replied s f .wrongState (itemOnly 0)))

/-- SET-GRID (R8): a grid within the table of 1.4 replaces the grid; otherwise the first failing setting is named, and the
reply carries the grid in force. -/
def Obligations.SetGridReplacesOrRefuses : Prop :=
  ∀ (ft : Byte) (g : GridFields) (s : State) (f : Frame), encodeRequest (.setGrid ft g) = some f → Free s f →
    (s.mode = .setup → gridItem g = none → exec (.setGrid ft g) s =
      .next (replied
        { s with time := { s.time with grid :=
          { interval := g.interval.toNat, windowStart := g.windowStart.toNat, windowLength := g.windowLength.toNat,
            closeDelay := g.closeDelay.toNat, spanLimit := g.spanLimit.toNat, trimStep := g.trimStep.toNat } } }
        f .ok f.body)) ∧
    (∀ item, s.mode = .setup → gridItem g = some item → exec (.setGrid ft g) s =
      .next (replied s f .range (itemOnly item ++ gridBytes s.time.grid))) ∧
    (s.mode ≠ .setup → exec (.setGrid ft g) s = .next (replied s f .wrongState (itemOnly 0)))

/-- TIME-MARK (R10). The offset field of the reply holds the offset in 32 bits where it fits; where it does not, the manual
states no value, and the statement holds for every value of the field (log 17). -/
def Obligations.TimeMarkSetsPendingTrim : Prop :=
  ∀ (ft : Byte) (ref : W32) (s : State) (f : Frame) (offset : Int), encodeRequest (.timeMark ft ref) = some f →
    Free s f → offset = (ref.toNat : Int) - s.time.partTime →
    (s.mode = .run → -600 ≤ offset → offset ≤ 600 → exec (.timeMark ft ref) s =
      .next (replied { s with time := { s.time with pendingTrim := offset } } f .ok
        (be32 (BitVec.ofNat 32 s.time.partTime) ++ be32 (BitVec.ofInt 32 offset)))) ∧
    (s.mode = .run → (offset < -600 ∨ 600 < offset) → ∃ field : W32,
      (-2147483648 ≤ offset → offset ≤ 2147483647 → field = BitVec.ofInt 32 offset) ∧
      exec (.timeMark ft ref) s =
        .next (replied { s with attn := { s.attn with latched := s.attn.latched ||| 0x08 } } f .clockFar
          (itemOnly 0 ++ be32 (BitVec.ofNat 32 s.time.partTime) ++ be32 field))) ∧
    (s.mode ≠ .run → exec (.timeMark ft ref) s = .next (replied s f .wrongState (itemOnly 0)))

/-! ## Pulse capture channels -/

/-- PIN_CHANGE where no edge is counted (R37, R38): no change of level, a channel in OFF or STATUS mode, a rising edge, or
an edge within 20 ms of the counted one. That a level the pin already has is no change is log 2, the microseconds since the
counted edge as an operand log 3. -/
def Obligations.PinChangeWithoutPulse : Prop :=
  ∀ (x : ChanId) (high : Bool) (micros : Nat) (s : State),
    ((s.channel x).pinHigh = high → exec (.pinChange x high micros) s = .next s) ∧
    ((s.channel x).pinHigh ≠ high → (s.channel x).mode = .off → exec (.pinChange x high micros) s =
      .next (s.putChannel x { s.channel x with pinHigh := high })) ∧
    ((s.channel x).pinHigh ≠ high → (s.channel x).mode = .status → exec (.pinChange x high micros) s =
      .next (s.putChannel x { s.channel x with pinHigh := high, conditioning := true })) ∧
    ((s.channel x).pinHigh ≠ high → (s.channel x).mode = .count →
      (high = true ∨ ((s.channel x).edgeCounted = true ∧ micros < 20000)) → exec (.pinChange x high micros) s =
      .next (s.putChannel x { s.channel x with pinHigh := high }))

/-- A counted edge (R37, R43, R48): the tally rises by one, wrapping; in COUNTING and GATE-PENDING the divider phase
advances, and when it reaches the divider it returns to 0 and, in RUN, a PULSE record is posted. -/
def Obligations.CountedEdgeIsTallied : Prop :=
  ∀ (x : ChanId) (micros : Nat) (s : State) (c counted : Channel), c = s.channel x → c.pinHigh = true →
    c.mode = .count → (c.edgeCounted = false ∨ 20000 ≤ micros) →
    counted = { c with pinHigh := false, tally := c.tally + 1, edgeCounted := true } →
    ((c.state = .gated ∨ c.state = .releaseWait) → exec (.pinChange x false micros) s = .next (s.putChannel x counted)) ∧
    ((c.state = .counting ∨ c.state = .gatePending) → c.phase + 1 < c.divider → exec (.pinChange x false micros) s =
      .next (s.putChannel x { counted with phase := c.phase + 1 })) ∧
    ((c.state = .counting ∨ c.state = .gatePending) → c.divider ≤ c.phase + 1 → s.mode ≠ .run →
      exec (.pinChange x false micros) s = .next (s.putChannel x { counted with phase := 0 })) ∧
    ((c.state = .counting ∨ c.state = .gatePending) → c.divider ≤ c.phase + 1 → s.mode = .run →
      exec (.pinChange x false micros) s =
        .next { s.putChannel x
            { counted with phase := 0, list := postTo c.list (.pulse s.time.partTime (c.tally + 1))
                           overflow := c.overflow || decide (4 ≤ c.list.length) } with
          attn := if 4 ≤ c.list.length then { s.attn with latched := s.attn.latched ||| 0x10 } else s.attn })

/-- The capture list (R45, R46, R47): what a record due does to a list with room and to a full list of four. -/
def Obligations.FullCaptureListRules : Prop :=
  (∀ (list : List Capture) (r : Capture), list.length < 4 → postTo list r = list ++ [r]) ∧
  (∀ (old : List Capture) (newest r : Capture), old.length = 3 → newest.isResume = false →
    postTo (old ++ [newest]) r = old ++ [r]) ∧
  (∀ (old : List Capture) (newest r : Capture), old.length = 3 → newest.isResume = true → r.isResume = false →
    postTo (old ++ [newest]) r = old ++ [newest]) ∧
  (∀ (old : List Capture) (g g' t t' : Nat) (cg cg' c c' : W32), old.length = 3 →
    postTo (old ++ [.resume g cg t c]) (.resume g' cg' t' c') = old ++ [.resume g cg t' c'])

/-- STATUS_LEVEL_CHANGE (R38 to R42, R48, R93, R137): the 2 s expire on channel x, which is in STATUS mode with conditioning
under way; without them the row has no effect (log 2). The level takes the pin's level, `on` before and `now` after. A COUNT
channel whose gate line is x, with a clear software gate flag, meets the assertion or the release of its sources; every other
channel is unchanged. `lost` are the channels whose RESUME record meets a full list. A zone whose hold becomes active has the
held mark set on a COLLECTING record; every other zone is unchanged. -/
def Obligations.StatusLevelReachesGatesAndHolds : Prop :=
  ∀ (x : ChanId) (s : State) (on now : Bool) (named lost : ChanId → Prop) (holds : ZoneId → Prop),
    on = (s.channel x).asserted → now = !(s.channel x).pinHigh →
    (∀ y, named y ↔ (y ≠ x ∧ (s.channel y).mode = .count ∧ (s.channel y).gateLine = some x ∧
      (s.channel y).softGate = false)) →
    (∀ y, lost y ↔ (named y ∧ on = true ∧ now = false ∧ (s.channel y).state = .gated ∧
      (s.channel y).manualRestart = false ∧ (s.channel y).gateRecord ≠ none ∧ s.mode = .run ∧
      4 ≤ (s.channel y).list.length)) →
    (∀ z, holds z ↔ ((s.zone z).condition ≠ .unconfigured ∧ (s.zone z).holdFlag = false ∧
      chanOf (s.zone z).entry.settings.holdLine = some x ∧ on = false ∧ now = true)) →
    (((s.channel x).mode ≠ .status ∨ (s.channel x).conditioning = false) → exec (.statusLevelChange x) s = .next s) ∧
    ((s.channel x).mode = .status → (s.channel x).conditioning = true →
      ∃ t, exec (.statusLevelChange x) s = .next t ∧
        t = { s with channels := t.channels, zones := t.zones, attn := t.attn } ∧
        t.channel x = { s.channel x with asserted := now, conditioning := false } ∧
        (∀ y, y ≠ x → (¬named y ∨ on = now) → t.channel y = s.channel y) ∧
        (∀ (y : ChanId) (c : Channel), named y → c = s.channel y → on = false → now = true →
          (c.state = .counting → c.boundaryTiming = false →
            t.channel y = { c with state := .gated, gateRecord := some (s.time.partTime, c.tally) }) ∧
          (c.state = .counting → c.boundaryTiming = true → t.channel y = { c with state := .gatePending }) ∧
          (c.state = .releaseWait → t.channel y = { c with state := .gated }) ∧
          (c.state ≠ .counting → c.state ≠ .releaseWait → t.channel y = c)) ∧
        (∀ (y : ChanId) (c : Channel), named y → c = s.channel y → on = true → now = false →
          (c.state = .gatePending → t.channel y = { c with state := .counting }) ∧
          (c.state = .gated → c.manualRestart = true → t.channel y = { c with state := .releaseWait }) ∧
          (c.state = .gated → c.manualRestart = false → s.mode ≠ .run →
            t.channel y = { c with state := .counting, gateRecord := none, phase := 0 }) ∧
          (∀ (g : Nat) (cg : W32), c.state = .gated → c.manualRestart = false → c.gateRecord = some (g, cg) →
            s.mode = .run → t.channel y =
              { c with state := .counting, gateRecord := none, phase := 0
                       list := postTo c.list (.resume g cg s.time.partTime c.tally)
                       overflow := c.overflow || decide (4 ≤ c.list.length) }) ∧
          (c.state ≠ .gatePending → c.state ≠ .gated → t.channel y = c)) ∧
        ((∀ y, ¬lost y) → t.attn = s.attn) ∧
        ((∃ y, lost y) → t.attn = { s.attn with latched := s.attn.latched ||| 0x10 }) ∧
        (∀ z, ¬holds z → t.zone z = s.zone z) ∧
        (∀ z, holds z → t.zone z = { s.zone z with
          record := (s.zone z).record.map fun r => if r.state = .collecting then { r with held := true } else r }))

/-- SET-CHANNEL (R49): refused by mode and by the first failing field, or written, with the working state of the table of
R49. A gate is evaluated afresh from the software gate flag kept and the gate line written. Another COUNT channel that is
gated by x's level alone meets its release when x loses that level; every other channel and every zone is unchanged. -/
def Obligations.SetChannelWritesConfiguration : Prop :=
  ∀ (ft ch mode divider gateLine timing restartMode : Byte) (s : State) (f : Frame),
    encodeRequest (.setChannel ft ch mode divider gateLine timing restartMode) = some f → Free s f →
    (s.mode ≠ .setup → exec (.setChannel ft ch mode divider gateLine timing restartMode) s =
      .next (replied s f .wrongState (itemOnly 0))) ∧
    (s.mode = .setup → 15 < ch.toNat → exec (.setChannel ft ch mode divider gateLine timing restartMode) s =
      .next (replied s f .range (itemOnly 0))) ∧
    (∀ (x : ChanId) (item : Byte), s.mode = .setup → ch.toNat = x.val →
      channelItem x mode divider gateLine timing restartMode = some item →
      exec (.setChannel ft ch mode divider gateLine timing restartMode) s =
        .next (replied s f .range (itemOnly item))) ∧
    (∀ x : ChanId, s.mode = .setup → ch.toNat = x.val →
      channelItem x mode divider gateLine timing restartMode = none →
      ∃ t, exec (.setChannel ft ch mode divider gateLine timing restartMode) s =
          .next (replied t f .ok [BitVec.ofNat 8 (t.channel x).state.code]) ∧
        t = { s with channels := t.channels, zones := t.zones } ∧ (∀ z, t.zone z = s.zone z) ∧
        (∀ (y : ChanId) (c : Channel) (freed : Prop), y ≠ x → c = s.channel y →
          (freed ↔ (c.mode = .count ∧ c.gateLine = some x ∧ c.softGate = false ∧ (s.channel x).mode = .status ∧
            (s.channel x).asserted = true ∧ mode ≠ 2)) →
          (¬freed → t.channel y = c) ∧
          (freed → (c.state = .gatePending → t.channel y = { c with state := .counting }) ∧
            (c.state = .gated → c.manualRestart = true → t.channel y = { c with state := .releaseWait }) ∧
            (c.state = .gated → c.manualRestart = false →
              t.channel y = { c with state := .counting, gateRecord := none, phase := 0 }) ∧
            (c.state ≠ .gatePending → c.state ≠ .gated → t.channel y = c))) ∧
        (t.channel x).divider = divider.toNat ∧ (t.channel x).gateLine = chanOf gateLine ∧
        (t.channel x).boundaryTiming = decide (timing = 1) ∧ (t.channel x).manualRestart = decide (restartMode = 1) ∧
        (t.channel x).list = (s.channel x).list ∧ (t.channel x).overflow = (s.channel x).overflow ∧
        (mode = 0 → (t.channel x).mode = .off ∧ (t.channel x).state = .off ∧ (t.channel x).tally = 0 ∧
          (t.channel x).phase = 0 ∧ (t.channel x).softGate = false ∧ (t.channel x).gateRecord = none ∧
          (t.channel x).asserted = false) ∧
        (mode = 2 → (t.channel x).mode = .status ∧ (t.channel x).state = .status ∧
          ((s.channel x).mode = .status → (t.channel x).asserted = (s.channel x).asserted) ∧
          ((s.channel x).mode ≠ .status → (t.channel x).asserted = false ∧ (t.channel x).conditioning = true ∧
            (t.channel x).tally = 0 ∧ (t.channel x).softGate = false ∧ (t.channel x).gateRecord = none)) ∧
        (mode = 1 → (t.channel x).mode = .count ∧ (t.channel x).phase = 0 ∧ (t.channel x).asserted = false ∧
          ((s.channel x).mode = .count → (t.channel x).tally = (s.channel x).tally ∧
            (t.channel x).softGate = (s.channel x).softGate) ∧
          ((s.channel x).mode ≠ .count → (t.channel x).tally = 0 ∧ (t.channel x).softGate = false) ∧
          (((t.channel x).softGate || s.lineAsserted (chanOf gateLine)) = true → (t.channel x).state = .gated ∧
            (t.channel x).gateRecord = some (s.time.partTime, (t.channel x).tally)) ∧
          (((t.channel x).softGate || s.lineAsserted (chanOf gateLine)) = false → (t.channel x).state = .counting ∧
            (t.channel x).gateRecord = none)))

/-- GATE-CHANNEL (R50): the refusals of both actions; SET on a channel by its state; RELEASE on a channel whose gate line is
not asserted. Outside RUN no RESUME record is posted (R44). -/
def Obligations.GateChannelSetsAndReleases : Prop :=
  ∀ (ft ch action : Byte) (s : State) (f : Frame) (c : Instr),
    (c = .gateChannelSet ft ch action ∨ (c = .gateChannelRelease ft ch ∧ action = 1)) → encodeRequest c = some f →
    Free s f →
    (s.mode = .starting → exec c s = .next (replied s f .wrongState (itemOnly 0))) ∧
    (s.mode ≠ .starting → 15 < ch.toNat → exec c s = .next (replied s f .range (itemOnly 0))) ∧
    (s.mode ≠ .starting → ch.toNat ≤ 15 → 1 < action.toNat → exec c s = .next (replied s f .range (itemOnly 1))) ∧
    (∀ (x : ChanId) (k : Channel), s.mode ≠ .starting → ch.toNat = x.val → k = s.channel x → action.toNat ≤ 1 →
      (k.mode ≠ .count → exec c s = .next (replied s f .wrongState (itemOnly 0))) ∧
      (k.mode = .count → action = 0 → (s.gateAsserted x = true ∨ (k.state ≠ .counting ∧ k.state ≠ .releaseWait)) →
        exec c s = .next (replied (s.putChannel x { k with softGate := true }) f .ok [BitVec.ofNat 8 k.state.code, 1])) ∧
      (k.mode = .count → action = 0 → s.gateAsserted x = false → k.state = .counting → k.boundaryTiming = false →
        exec c s = .next (replied (s.putChannel x
          { k with softGate := true, state := .gated, gateRecord := some (s.time.partTime, k.tally) }) f .ok [4, 1])) ∧
      (k.mode = .count → action = 0 → s.gateAsserted x = false → k.state = .counting → k.boundaryTiming = true →
        exec c s = .next (replied (s.putChannel x { k with softGate := true, state := .gatePending }) f .ok [3, 1])) ∧
      (k.mode = .count → action = 0 → s.gateAsserted x = false → k.state = .releaseWait →
        exec c s = .next (replied (s.putChannel x { k with softGate := true, state := .gated }) f .ok [4, 1])) ∧
      (k.mode = .count → action = 1 → s.lineAsserted k.gateLine = true →
        exec c s = .next (replied s f .wrongState (itemOnly 0))) ∧
      (k.mode = .count → action = 1 → s.lineAsserted k.gateLine = false → k.state = .counting →
        exec c s = .next (replied (s.putChannel x { k with softGate := false }) f .ok [2, 0])) ∧
      (k.mode = .count → action = 1 → s.lineAsserted k.gateLine = false → k.state = .gatePending →
        exec c s = .next (replied (s.putChannel x { k with softGate := false, state := .counting }) f .ok [2, 0])) ∧
      (k.mode = .count → action = 1 → s.lineAsserted k.gateLine = false →
        (k.state = .gated ∨ k.state = .releaseWait) → s.mode ≠ .run →
        exec c s = .next (replied (s.putChannel x
          { k with softGate := false, state := .counting, gateRecord := none, phase := 0 }) f .ok [2, 0])) ∧
      (∀ (g : Nat) (cg : W32), k.mode = .count → action = 1 → s.lineAsserted k.gateLine = false →
        (k.state = .gated ∨ k.state = .releaseWait) → s.mode = .run → k.gateRecord = some (g, cg) →
        exec c s = .next (replied
          { s.putChannel x
              { k with softGate := false, state := .counting, gateRecord := none, phase := 0
                       list := postTo k.list (.resume g cg s.time.partTime k.tally)
                       overflow := k.overflow || decide (4 ≤ k.list.length) } with
            attn := if 4 ≤ k.list.length then { s.attn with latched := s.attn.latched ||| 0x10 } else s.attn }
          f .ok [2, 0])))

/-! ## Stage and meters -/

/-- STAGE-METER (R25): the tests in order; then the stage holds the binding for the slot, and the other slots' bindings as
before. A NONE binding is stored cleared; a REMOTE one with channel 0; a PULSE one without digits; memberships beyond those
listed are 0. A list that names one zone twice is refused at its second membership (item 19), which is the model's reading
(log 25). -/
def Obligations.StageMeterHoldsBinding : Prop :=
  ∀ (ft slot : Byte) (b : MeterBinding) (s : State) (f : Frame), encodeRequest (.stageMeter ft slot b) = some f →
    Free s f →
    (s.mode = .starting → exec (.stageMeter ft slot b) s = .next (replied s f .wrongState (itemOnly 0))) ∧
    (s.mode ≠ .starting → s.stage.commitPending = true → exec (.stageMeter ft slot b) s =
      .next (replied s f .stageLocked (itemOnly 0))) ∧
    (s.mode ≠ .starting → s.stage.commitPending = false → 127 < slot.toNat → exec (.stageMeter ft slot b) s =
      .next (replied s f .range (itemOnly 0))) ∧
    (∀ item, s.mode ≠ .starting → s.stage.commitPending = false → slot.toNat ≤ 127 → bindingItem b = some item →
      exec (.stageMeter ft slot b) s = .next (replied s f .range (itemOnly item))) ∧
    (∀ m : SlotId, s.mode ≠ .starting → s.stage.commitPending = false → slot.toNat = m.val → bindingItem b = none →
      ((∀ p ∈ s.stage.bindings, p.slot ≠ m) → 8 ≤ s.stage.bindings.length → exec (.stageMeter ft slot b) s =
        .next (replied s f .stageFull (itemOnly 0))) ∧
      (((∃ p ∈ s.stage.bindings, p.slot = m) ∨ s.stage.bindings.length < 8) →
        ∃ (staged : List PendingBinding) (stored : MeterBinding), exec (.stageMeter ft slot b) s =
          .next (replied { s with stage := { s.stage with bindings := staged } } f .ok
            [BitVec.ofNat 8 staged.length]) ∧
          (∀ p, p ∈ staged ↔ (p = { slot := m, binding := stored } ∨ (p ∈ s.stage.bindings ∧ p.slot ≠ m))) ∧
          (b.source = 0 → stored =
            { source := 0, channel := 0, tag := 0, volume := 0, digits := 0, qmax := 0, count := 0,
              zone1 := 0, dir1 := 0, zone2 := 0, dir2 := 0 }) ∧
          (b.source ≠ 0 → stored.source = b.source ∧ stored.tag = b.tag ∧ stored.volume = b.volume ∧
            stored.qmax = b.qmax ∧ stored.count = b.count) ∧
          (b.source = 1 → stored.channel = 0 ∧ stored.digits = b.digits) ∧
          (b.source = 2 → stored.channel = b.channel ∧ stored.digits = 0) ∧
          (b.source ≠ 0 → 1 ≤ b.count.toNat → stored.zone1 = b.zone1 ∧ stored.dir1 = b.dir1) ∧
          (b.source ≠ 0 → b.count = 2 → stored.zone2 = b.zone2 ∧ stored.dir2 = b.dir2) ∧
          (b.count = 0 → stored.zone1 = 0 ∧ stored.dir1 = 0) ∧
          (b.count.toNat < 2 → stored.zone2 = 0 ∧ stored.dir2 = 0)))

/-- DISCARD-STAGE (R26). -/
def Obligations.DiscardStageEmpties : Prop :=
  ∀ (ft : Byte) (s : State) (f : Frame), encodeRequest (.discardStage ft) = some f → Free s f →
    (s.mode = .starting → exec (.discardStage ft) s = .next (replied s f .wrongState (itemOnly 0))) ∧
    (s.mode ≠ .starting → s.stage.commitPending = true → exec (.discardStage ft) s =
      .next (replied s f .stageLocked (itemOnly 0))) ∧
    (s.mode ≠ .starting → s.stage.commitPending = false → exec (.discardStage ft) s =
      .next (replied { s with stage := { bindings := [], commitPending := false, due := false } } f .ok
        [BitVec.ofNat 8 s.stage.bindings.length]))

/-- COMMIT-STAGE (R27, R28): refused, answered OK for an empty stage, or validated; a failed validation is INVALID and
names the test and its subjects; a passed one is applied at once in SETUP and becomes a pending commit in RUN. `v` is the
validation: the state its verifications leave, and its first failure. The count byte 0 in the reply for an empty stage, for
which R27 lists no field, is the model's choice (log 16). -/
def Obligations.CommitStageValidates : Prop :=
  ∀ (ft : Byte) (s t : State) (f : Frame) (v : State × Option CommitFailure), encodeRequest (.commitStage ft) = some f →
    Free s f → v = s.validate s.stage.bindings →
    (s.mode = .starting → exec (.commitStage ft) s = .next (replied s f .wrongState (itemOnly 0))) ∧
    (s.mode ≠ .starting → s.stage.commitPending = true → exec (.commitStage ft) s =
      .next (replied s f .stageLocked (itemOnly 0))) ∧
    (s.mode ≠ .starting → s.stage.commitPending = false → s.stage.bindings = [] → exec (.commitStage ft) s =
      .next (replied s f .ok [0])) ∧
    (∀ fault : CommitFailure, s.mode ≠ .starting → s.stage.commitPending = false → s.stage.bindings ≠ [] →
      v.2 = some fault → exec (.commitStage ft) s =
        .next (replied v.1 f .invalid
          [BitVec.ofNat 8 fault.test, 2, BitVec.ofNat 8 fault.slot.val, BitVec.ofNat 8 fault.kindB,
           BitVec.ofNat 8 fault.numberB])) ∧
    (s.mode = .setup → s.stage.commitPending = false → s.stage.bindings ≠ [] → v.2 = none → t = v.1.applyCommit →
      exec (.commitStage ft) s = .next (replied t f .ok [BitVec.ofNat 8 s.stage.bindings.length])) ∧
    (s.mode = .run → s.stage.commitPending = false → s.stage.bindings ≠ [] → v.2 = none →
      t = { v.1 with stage := { v.1.stage with commitPending := true } } →
      exec (.commitStage ft) s = .next (replied t f .accepted [BitVec.ofNat 8 s.stage.bindings.length]))

/-- Validation (R27) when every entry matches its code and no zone's fault mark is set: it changes nothing, and it passes
exactly when every pending binding that is not NONE names only zones that are configured and not FAULT, none of them with
more than 12 members in the resulting table, holds a tag that no other slot of that table holds, and, for PULSE, a channel
in COUNT mode that no other slot of that table holds. `table` is the resulting table (none: the slot is unbound). -/
def Obligations.ValidationLaw : Prop :=
  ∀ (s : State) (table : SlotId → Option MeterBinding), (∀ e, s.entryMatches e = true) →
    (∀ z, (s.zone z).mark = false) →
    (∀ m, table m = match s.stage.bindings.find? fun p => p.slot = m with
      | some p => if p.binding.source = 0 then none else some p.binding
      | none => if (s.meter m).state = .unbound then none else some (s.meter m).binding) →
    (s.validate s.stage.bindings).1 = s ∧
    ((s.validate s.stage.bindings).2 = none ↔
      ∀ p ∈ s.stage.bindings, p.binding.source ≠ 0 →
        (∀ q ∈ memberships p.binding, (s.zone q.1).condition ≠ .unconfigured ∧ (s.zone q.1).condition ≠ .fault ∧
          ((List.finRange 128).countP fun m =>
            match table m with
            | some b => (memberships b).any fun r => r.1 = q.1
            | none => false) ≤ 12) ∧
        (∀ m b, m ≠ p.slot → table m = some b → b.tag ≠ p.binding.tag) ∧
        (p.binding.source = 2 →
          (∀ m b, m ≠ p.slot → table m = some b → b.source = 2 → b.channel ≠ p.binding.channel) ∧
          ∃ x : ChanId, p.binding.channel.toNat = x.val ∧ (s.channel x).mode = .count))

/-- The application of a commit. R30, for one slot that has one pending binding: the row of R30's table, a matching code, a
clear fault mark; a slot without a pending binding is unchanged; the stage is emptied. R31, for one zone: its member set
changes when a pair is added, removed or turned, or the commit changed the tag or the source of a member (`moved`); the entries
of an open record that is not CLOSING are then brought up to date, and one past WAITING is marked. That a member which is
turned has a fresh entry, as an arriving one, is the model's reading (log 21). -/
def Obligations.CommitAppliesBindings : Prop :=
  ∀ (s u : State), u = s.applyCommit → (s.stage.bindings.map (·.slot)).Nodup →
    u = { s with meters := u.meters, zones := u.zones, stage := u.stage } ∧
    u.stage = { bindings := [], commitPending := false, due := false } ∧
    (∀ (m : SlotId) (old : MeterSlot), old = s.meter m →
      ((∀ p ∈ s.stage.bindings, p.slot ≠ m) → u.meter m = old) ∧
      (∀ (b : MeterBinding) (kept afresh : MeterSlot), { slot := m, binding := b } ∈ s.stage.bindings →
        kept = { old with binding := b, code := bindingCode b, mark := false } →
        afresh = { kept with state := .awaiting, lastPoint := none, doubt := 0 } →
        (b.source = 0 → old.state = .unbound → u.meter m = kept) ∧
        (b.source = 0 → old.state ≠ .unbound → u.meter m =
          { kept with state := .unbound, lastPoint := none, doubt := 0 }) ∧
        (b.source ≠ 0 → (old.state = .unbound ∨ old.state = .faulted) → u.meter m = afresh) ∧
        (b.source ≠ 0 → old.state ≠ .unbound → old.state ≠ .faulted → old.binding.tag = b.tag →
          ((b.source = 1 ∧ old.binding.source = 1) ∨
            (b.source = 2 ∧ old.binding.source = 2 ∧ old.binding.channel = b.channel)) →
          u.meter m = kept) ∧
        (b.source ≠ 0 → old.state ≠ .unbound → old.state ≠ .faulted →
          (old.binding.tag ≠ b.tag ∨ ¬((b.source = 1 ∧ old.binding.source = 1) ∨
            (b.source = 2 ∧ old.binding.source = 2 ∧ old.binding.channel = b.channel))) →
          u.meter m = afresh))) ∧
    (∀ (z : ZoneId) (moved : SlotId → Prop) (changes : Prop),
      (∀ m, moved m ↔ ((u.meter m).binding.tag ≠ (s.meter m).binding.tag ∨
        (u.meter m).binding.source ≠ (s.meter m).binding.source ∨
        ((u.meter m).binding.source ≠ 1 ∧ (u.meter m).binding.channel ≠ (s.meter m).binding.channel))) →
      (changes ↔ (u.memberSet z ≠ s.memberSet z ∨ ∃ q ∈ u.memberSet z, moved q.1)) →
      ((¬changes ∨ (s.zone z).record = none ∨ ∃ r, (s.zone z).record = some r ∧ r.state = .closing) →
        u.zone z = s.zone z) ∧
      (∀ r, changes → (s.zone z).record = some r → r.state ≠ .closing → ∃ (entries : List Member) (r' : NightRecord),
        r' = { r with members := entries, changed := r.changed || decide (r.state ≠ .waiting) } ∧
        u.zone z = { s.zone z with record := some r' } ∧
        entries.map (fun e => (e.slot, e.dir)) = u.memberSet z ∧
        ∀ e ∈ entries,
          ((moved e.slot ∨ ∀ e' ∈ r.members, e'.slot = e.slot → e'.dir ≠ e.dir) → e.reach = none ∧ e.gaps = 0) ∧
          (¬moved e.slot → (∃ e' ∈ r.members, e'.slot = e.slot ∧ e'.dir = e.dir) → e ∈ r.members)))

/-- METER-RELEASE (R34), for a slot that the intake is not serving (R55). -/
def Obligations.MeterReleaseFreesDoubtful : Prop :=
  ∀ (ft slot : Byte) (s : State) (f : Frame), encodeRequest (.meterRelease ft slot) = some f → Free s f →
    (s.mode = .starting → exec (.meterRelease ft slot) s = .next (replied s f .wrongState (itemOnly 0))) ∧
    (s.mode ≠ .starting → 127 < slot.toNat → exec (.meterRelease ft slot) s = .next (replied s f .range (itemOnly 0))) ∧
    (∀ m : SlotId, s.mode ≠ .starting → slot.toNat = m.val → s.serves m = false → (s.meter m).state ≠ .doubtful →
      exec (.meterRelease ft slot) s = .next (replied s f .wrongState (itemOnly 0))) ∧
    (∀ m : SlotId, s.mode ≠ .starting → slot.toNat = m.val → s.serves m = false → (s.meter m).state = .doubtful →
      exec (.meterRelease ft slot) s = .next (replied
        (s.putMeter m { s.meter m with state := .awaiting, lastPoint := none, doubt := 0 }) f .ok [])) ∧
    (∀ m : SlotId, s.mode ≠ .starting → slot.toNat = m.val → s.serves m = true → exec (.meterRelease ft slot) s =
      .next (working { s with intake := { s.intake with releaseWaiting := some m } } f))

/-! ## Intake -/

/-- READING and READING-BATCH (R53, R54, R57). An intake that has come to the link in its ring, or is idle and takes new work,
whichever channels wait (log 8), takes the item: the whole-request tests in order, and the job that comes into hand, ended by
a failed test. An entry that mismatches is faulted first (R148). Otherwise the item stays the link's waiting work, and nothing
else changes. -/
def Obligations.ReadingIsTakenAndTested : Prop :=
  ∀ (ft slot : Byte) (tag : W32) (pairs : List Pair) (batch : Bool) (c : Instr) (s : State) (f : Frame)
    (taken : State → Option (Status × Nat) → State),
    (c = .readingBatch ft slot tag pairs ∧ batch = true ∨
      ∃ p, c = .reading ft slot tag p ∧ pairs = [p] ∧ batch = false) →
    encodeRequest c = some f → Free s f → (∀ t e, taken t e = working { t with intake :=
      { t.intake with hand := .reading { slot := slot, batch := batch, todo := pairs, outcomes := [], ended := e },
                      pointer := 16, touched := [] } } f) →
    (s.intake.hand ≠ .link →
      (s.intake.hand ≠ .idle ∨ s.ctl.leaving ≠ none ∨ s.ctl.restarting = true) → exec c s =
        .next { s with link := { s.link with hand := some { frame := f, phase := .waiting } } }) ∧
    ((s.intake.hand = .link ∨ (s.intake.hand = .idle ∧ s.ctl.leaving = none ∧ s.ctl.restarting = false)) →
    (s.mode ≠ .run → exec c s = .next (taken s (some (.wrongState, 0)))) ∧
    (s.mode = .run → 127 < slot.toNat → exec c s = .next (taken s (some (.range, 0)))) ∧
    (s.mode = .run → slot.toNat ≤ 127 → batch = true → (pairs.length < 1 ∨ 16 < pairs.length) →
      exec c s = .next (taken s (some (.range, 5)))) ∧
    (∀ m : SlotId, s.mode = .run → slot.toNat = m.val → (batch = true → 1 ≤ pairs.length ∧ pairs.length ≤ 16) →
      ((s.meter m).state = .unbound → exec c s = .next (taken s (some (.noSuch, 0)))) ∧
      ((s.meter m).state ≠ .unbound → (s.meter m).mark = false → s.entryMatches (.meter m) = false →
        exec c s = .next (taken (s.newFault (.meter m)) (some (.faulted, 0)))) ∧
      ((s.meter m).state ≠ .unbound →
        ((s.meter m).mark = true ∨ ((s.meter m).state = .faulted ∧ s.entryMatches (.meter m) = true)) →
        exec c s = .next (taken s (some (.faulted, 0)))) ∧
      ((s.meter m).state ≠ .unbound → (s.meter m).state ≠ .faulted → (s.meter m).mark = false →
        s.entryMatches (.meter m) = true →
        ((s.meter m).binding.tag ≠ tag → exec c s = .next (taken s (some (.tagMismatch, 0)))) ∧
        ((s.meter m).binding.tag = tag → (s.meter m).binding.source = 2 →
          exec c s = .next (taken s (some (.source, 0)))) ∧
        ((s.meter m).binding.tag = tag → (s.meter m).binding.source ≠ 2 → exec c s = .next (taken s none)))))

/-- READING_PAIR (R58, R59, R64 to R78): the tests of the next pair in order; then what the pair does to its slot and to the
open records of its zones, by the slot's state and the span, with its outcome; LATE when part of the span is dropped as late and
APPLIED otherwise (R75). `job` is the job after a pair taken; a span's volume is that of R65; the slot's memberships lie in
distinct zones (R19); `takes` says what the records take of the pair. -/
def Obligations.ReadingPairMovesSlot : Prop :=
  ∀ (s : State) (j : ReadingJob) (p : Pair) (rest : List Pair) (m : SlotId) (x : MeterSlot)
    (ended : Status → Nat → State) (job : PairOutcome → ReadingJob)
    (takes : State → Gap → Option (Nat → Nat → Nat) → Prop),
    s.intake.hand = .reading j → j.ended = none → j.todo = p :: rest → j.slot.toNat = m.val → x = s.meter m →
    (x.members.map (·.1)).Nodup →
    (∀ t gap share, takes t gap share ↔ ZonesTake s t m Accepting p.time.toNat gap share) →
    (∀ st item, ended st item =
      { s with intake := { s.intake with hand := .reading { j with ended := some (st, item) } } }) →
    (∀ o, job o = { j with todo := rest, outcomes := j.outcomes ++ [o],
                           ended := if rest = [] then some (.ok, 0) else none }) →
    (x.state = .faulted → exec .readingPair s = .next (ended .faulted 0)) ∧
    (x.state ≠ .faulted → 10 ^ x.binding.digits.toNat ≤ p.index.toNat →
      exec .readingPair s = .next (ended .range (if j.batch then 10 + 8 * j.outcomes.length else 9))) ∧
    (x.state ≠ .faulted → p.index.toNat < 10 ^ x.binding.digits.toNat →
      (s.time.partTime + 300 < p.time.toNat → exec .readingPair s = .next (ended .tooNew 0)) ∧
      (p.time.toNat ≤ s.time.partTime + 300 →
        (∀ q, x.lastPoint = some q → p.time.toNat < q.time → exec .readingPair s = .next (ended .order 0)) ∧
        (∀ q, x.lastPoint = some q → p.time.toNat = q.time → p.index ≠ q.value →
          exec .readingPair s = .next (ended .conflict 0)) ∧
        (x.lastPoint = some ⟨p.time.toNat, p.index⟩ → exec .readingPair s =
          .next { s with intake := { s.intake with hand := .reading (job .duplicate) } }) ∧
        (x.state = .awaiting → x.lastPoint = none → ∃ t, exec .readingPair s = .next t ∧
          t = { s with meters := t.meters, zones := t.zones, intake := t.intake } ∧
          t.intake.hand = .reading (job .first) ∧ (∀ k, k ≠ m → t.meter k = s.meter k) ∧
          t.meter m = { x with state := .live, doubt := 0, lastPoint := some ⟨p.time.toNat, p.index⟩ } ∧
          takes t (firstGap s.time.grid p.time.toNat) none) ∧
        (∀ q, x.state = .doubtful → x.binding.source = 1 → x.lastPoint = some q → q.time < p.time.toNat →
          ∃ t, exec .readingPair s = .next t ∧
            t = { s with meters := t.meters, zones := t.zones, intake := t.intake } ∧
            t.intake.hand = .reading (job .doubtful) ∧ (∀ k, k ≠ m → t.meter k = s.meter k) ∧
            t.meter m = { x with lastPoint := some ⟨p.time.toNat, p.index⟩ } ∧
            takes t (spanGap s.time.grid q.time p.time.toNat) none) ∧
        (∀ q (length volume : Nat), x.state = .live → x.binding.source = 1 → x.lastPoint = some q →
          q.time < p.time.toNat → length = p.time.toNat - q.time →
          volume = (((p.index.toNat : Int) - q.value.toNat) % ((10 ^ x.binding.digits.toNat : Nat) : Int)).toNat *
            x.binding.volume.toNat →
          (s.time.grid.spanLimit < length → ∃ t, exec .readingPair s = .next t ∧
            t = { s with meters := t.meters, zones := t.zones, intake := t.intake } ∧
            t.intake.hand = .reading (job .withheld) ∧ (∀ k, k ≠ m → t.meter k = s.meter k) ∧
            t.meter m = { x with lastPoint := some ⟨p.time.toNat, p.index⟩ } ∧
            takes t (spanGap s.time.grid q.time p.time.toNat) none) ∧
          (length ≤ s.time.grid.spanLimit → x.binding.qmax.toNat * length + x.binding.volume.toNat < volume →
            ∃ t, exec .readingPair s = .next t ∧
              t = { s with meters := t.meters, zones := t.zones, intake := t.intake, findings := t.findings,
                           attn := t.attn } ∧
              t.intake.hand = .reading (job .implausible) ∧ (∀ k, k ≠ m → t.meter k = s.meter k) ∧
              takes t (spanGap s.time.grid q.time p.time.toNat) none ∧
              (x.doubt < 2 → t.findings = s.findings ∧ t.meter m =
                { x with doubt := x.doubt + 1, lastPoint := some ⟨p.time.toNat, p.index⟩ }) ∧
              (2 ≤ x.doubt → s.findings.length < 32 →
                t.findings = s.findings ++ [⟨.meterDoubt, .meter m, none, none, none⟩] ∧
                t.meter m = { x with state := .doubtful, doubt := 3, lastPoint := some ⟨p.time.toNat, p.index⟩ }) ∧
              (2 ≤ x.doubt → 32 ≤ s.findings.length → t.findings = s.findings ∧ t.meter m =
                { x with state := .doubtful, doubt := 3, lastPoint := some ⟨p.time.toNat, p.index⟩, lost := true })) ∧
          (length ≤ s.time.grid.spanLimit → volume ≤ x.binding.qmax.toNat * length + x.binding.volume.toNat →
            ∃ t o, exec .readingPair s = .next t ∧
              t = { s with meters := t.meters, zones := t.zones, intake := t.intake } ∧
              (Late s m q.time p.time.toNat → o = .late) ∧ (¬Late s m q.time p.time.toNat → o = .applied) ∧
              t.intake.hand = .reading (job o) ∧
              takes t (holeGap s.time.grid q.time) (some (shareOf s.time.grid volume q.time p.time.toNat)) ∧
              (∀ k, k ≠ m → t.meter k = s.meter k) ∧
              t.meter m = { x with doubt := 0, lastPoint := some ⟨p.time.toNat, p.index⟩ }))))

/-- CAPTURE_RECORD and RESUME_RECORD (R54, R55, R61 to R78). Served by an idle intake that takes work, whichever others wait
(log 8): the oldest record leaves its channel's list and the pointer moves to the channel; without a claimant the record
changes no slot and no zone; the one claimant takes it when its entry matches, under its state and its zones' records as they
stand; a mismatch faults it first and discards the record. Served as the record that the intake took when its last item ended:
under the slot's state read then (R55; the moment is log 7), and its zones' records as they stand now, so that one CLOSING
meanwhile takes nothing (R71, R97), but for a RESUME, whose records were read then (R62). A claimant's source is PULSE, its
memberships in distinct zones (R19). That a LIVE or DOUBTFUL slot without a last point, which no run reaches, is anchored as
by a re-anchoring is log 28. -/
def Obligations.CaptureRecordReachesItsMeter : Prop :=
  (∀ (x : ChanId) (r : Capture) (rest : List Capture) (s : State) (c : Instr),
    s.intake.hand = .idle → s.ctl.leaving = none → s.ctl.restarting = false → (s.channel x).list = r :: rest →
    (r.isResume = false → c = .captureRecord x) → (r.isResume = true → c = .resumeRecord x) →
    ∃ t, exec c s = .next t ∧
      t = { s with channels := t.channels, meters := t.meters, zones := t.zones, intake := t.intake,
                   findings := t.findings, attn := t.attn, analyser := t.analyser } ∧
      t.channel x = { s.channel x with list := rest } ∧ (∀ y, y ≠ x → t.channel y = s.channel y) ∧
      t.intake.pointer = x.castSucc ∧
      (s.claimants x = [] → t.meters = s.meters ∧ t.zones = s.zones ∧ t.intake.hand = .served x none) ∧
      (∀ m, s.claimants x = [m] → (s.meter m).mark = false → s.entryMatches (.meter m) = false →
        t.intake.hand = .served x none ∧ t.zones = s.zones ∧ (∀ k, k ≠ m → t.meter k = s.meter k) ∧
        (t.meter m).mark = true ∧ (t.meter m).state = .faulted ∧ (t.meter m).lastPoint = (s.meter m).lastPoint) ∧
      (∀ m, s.claimants x = [m] → (s.meter m).mark = false → s.entryMatches (.meter m) = true →
        t.intake.hand = .served x (some m) ∧ (∀ k, k ≠ m → t.meter k = s.meter k) ∧
        (((s.meter m).members.map (·.1)).Nodup →
          RecordHandled
            { s with channels := t.channels
                     intake := { s.intake with hand := .served x (some m), pointer := x.castSucc, touched := [] } }
            t m (s.meter m).state Accepting r) ∧
        (∀ (time : Nat) (count : W32), (r = .pulse time count ∨ r = .boundary time count) →
          (t.meter m).lastPoint = some ⟨time, count⟩) ∧
        (∀ (g tr : Nat) (cg cr : W32), r = .resume g cg tr cr → (t.meter m).lastPoint = some ⟨tr, cr⟩))) ∧
  (∀ (x : ChanId) (r : Capture) (slot : Option TakenSlot) (s : State) (c : Instr),
    s.intake.hand = .chosen x r slot →
    (r.isResume = false → c = .captureRecord x) → (r.isResume = true → c = .resumeRecord x) →
    (slot = none → exec c s = .next { s with intake := { s.intake with hand := .served x none } }) ∧
    (∀ tk, slot = some tk → (tk.state = .awaiting ∨ tk.state = .live ∨ tk.state = .doubtful) →
      (s.meter tk.slot).state ≠ .unbound → (s.meter tk.slot).binding.source = 2 → ((s.meter tk.slot).members.map (·.1)).Nodup →
      ∃ t, exec c s = .next t ∧
        RecordHandled { s with intake := { s.intake with hand := .served x (some tk.slot) } } t tk.slot tk.state
          (fun z n => if r.isResume then (z, n.night) ∈ tk.nights else Accepting z n) r))

/-- INTAKE_ITEM_END (R29, R54, R55, R56, R60, R94). The reply of a link item is formed; the early close test is made on the
records the item changed; a commit that fell due, or meets the leaving phase, is applied, before or after those tests (the
order the command gives, log 6), between the taking of RESTART and its acting too (log 37); a METER-RELEASE that waited is
taken; then, if the intake takes work, the next item is that of the first requester after the pointer, once round the ring,
that has waiting work, and the pointer moves to it; a capture record leaves its list then, its slot found and read (log 7).
With no work the intake is idle and the pointer stays. `due` is whether a commit is applied. -/
def Obligations.ItemEndRepliesAndTakesNext : Prop :=
  ∀ (order : List ItemEndPart) (s : State) (due : Prop),
    (due ↔ (s.stage.commitPending = true ∧ (s.stage.due = true ∨ s.ctl.leaving ≠ none))) →
    ((∃ x k, s.intake.hand = .served x k ∧
        (s.intake.releaseWaiting = none ∨ ∃ h, s.link.hand = some h ∧ h.phase = .working ∧ s.link.resetLow = false)) ∨
      (∃ j h, s.intake.hand = .reading j ∧ j.ended ≠ none ∧ s.link.hand = some h ∧ h.phase = .working ∧
        s.link.resetLow = false ∧ s.intake.releaseWaiting = none)) →
    ∃ t, exec (.intakeItemEnd order) s = .next t ∧ t.intake.releaseWaiting = none ∧ t.intake.touched = [] ∧
      (∀ x k, s.intake.hand = .served x k → s.intake.releaseWaiting = none → t.link = s.link) ∧
      (∀ j st item, s.intake.hand = .reading j → j.ended = some (st, item) → ∃ h r, t.link.hand = some h ∧
        h.phase = .sending r ∧ r.status = st ∧
        r.body = (if st = .ok then [] else itemOnly (BitVec.ofNat 8 item)) ++ s.readingBytes j.slot j.outcomes) ∧
      (∀ m, s.intake.releaseWaiting = some m → ¬due → ∃ h r, t.link.hand = some h ∧ h.phase = .sending r ∧
        ((s.meter m).state = .doubtful → r.status = .ok ∧ r.body = [] ∧
          ((∀ e, s.entryMatches e = true) → t.meter m =
            { s.meter m with state := .awaiting, lastPoint := none, doubt := 0 })) ∧
        ((s.meter m).state ≠ .doubtful → r.status = .wrongState ∧ r.body = itemOnly 0 ∧
          ((∀ e, s.entryMatches e = true) → t.meter m = s.meter m))) ∧
      (¬due → t.stage = s.stage ∧ ∀ z, (z ∈ s.intake.touched → t.zone z = (s.earlyClose z).zone z) ∧
        (z ∉ s.intake.touched → t.zone z = s.zone z)) ∧
      (due → t.stage = { bindings := [], commitPending := false, due := false } ∧
        t.ctl = { s.ctl with leaving := s.ctl.leaving.map fun l => { l with applied := s.stage.bindings.length } } ∧
        ((∀ e, s.entryMatches e = true) → s.intake.releaseWaiting = none → t.meters = s.applyCommit.meters) ∧
        (t.zones = (s.intake.touched.foldl State.earlyClose s).applyCommit.zones ∨
          t.zones = (s.intake.touched.foldl State.earlyClose s.applyCommit).zones) ∧
        (order.head? = some .earlyClose →
          t.zones = (s.intake.touched.foldl State.earlyClose s).applyCommit.zones) ∧
        (order.head? = some .commit →
          t.zones = (s.intake.touched.foldl State.earlyClose s.applyCommit).zones)) ∧
      ((s.ctl.leaving ≠ none ∨ s.ctl.restarting = true) → t.intake.hand = .idle ∧ t.intake.pointer = s.intake.pointer) ∧
      (s.ctl.leaving = none → s.ctl.restarting = false →
        ((∀ q, s.hasWork q = false) → t.intake.hand = .idle ∧ t.intake.pointer = s.intake.pointer) ∧
        (∀ d : Fin 17, s.hasWork (s.intake.pointer + 1 + d) = true →
          (∀ e : Fin 17, e < d → s.hasWork (s.intake.pointer + 1 + e) = false) →
          t.intake.pointer = s.intake.pointer + 1 + d ∧
          (s.intake.pointer + 1 + d = 16 → t.intake.hand = .link) ∧
          (∀ (x : ChanId) (r : Capture) (rest : List Capture), s.intake.pointer + 1 + d = x.castSucc →
            (s.channel x).list = r :: rest → ∃ slot, t.intake.hand = .chosen x r slot ∧ (t.channel x).list = rest ∧
              ((∀ e, s.entryMatches e = true) → (∀ m, (t.meter m).mark = false) →
                (t.claimants x = [] → slot = none) ∧
                (∀ m others, t.claimants x = m :: others → ∃ tk, slot = some tk ∧ ReadAs t m tk)))))

/-- The shares of a span of nonzero length in the bins of a night (R72): each is the difference of the cumulative floors at
the end and at the start of its bin, and together they make floor(ΔV × total overlap / span). -/
def Obligations.SharesAreCumulativeFloors : Prop :=
  ∀ (g : Grid) (night volume t0 t1 : Nat) (o : Nat → Nat), t0 < t1 →
    (∀ k, o k = min t1 (g.binStart night (k + 1)) - max t0 (g.binStart night k)) →
    (g.shares night volume t0 t1).length = g.binCount ∧
    (∀ k, k < g.binCount → (g.shares night volume t0 t1)[k]? = some
      (volume * ((List.range (k + 1)).map o).sum / (t1 - t0) - volume * ((List.range k).map o).sum / (t1 - t0))) ∧
    (g.shares night volume t0 t1).sum = volume * ((List.range g.binCount).map o).sum / (t1 - t0)

/-- A CLOSING record, and the record of a zone the meter does not belong to, take nothing from a point (R71, R77). -/
def Obligations.ClosingRecordsTakeNothing : Prop :=
  ∀ (s : State) (m : SlotId) (p : Point) (z : ZoneId) (r : NightRecord), (s.zone z).record = some r →
    (r.state = .closing ∨ (∀ q ∈ (s.meter m).members, q.1 ≠ z)) → ((s.takePoint (s.readSlot m) p).1.zone z).record = some r

/-! ## Pressure -/

/-- PRESSURE (R81 to R84): the tests in order; then the place of the sample by its time and the zone's open record. That the
replies FULL (1) and IGNORED (2) leave out, without filling, the fields they do not have is the model's choice (log 16). -/
def Obligations.PressureSampleIsPlaced : Prop :=
  ∀ (ft zone : Byte) (time : W32) (v : W16) (s : State) (f : Frame), encodeRequest (.pressure ft zone time v) = some f →
    Free s f →
    (s.mode ≠ .run → exec (.pressure ft zone time v) s = .next (replied s f .wrongState (itemOnly 0))) ∧
    (s.mode = .run → 47 < zone.toNat → exec (.pressure ft zone time v) s = .next (replied s f .range (itemOnly 0))) ∧
    (∀ z : ZoneId, s.mode = .run → zone.toNat = z.val →
      ((s.zone z).condition = .unconfigured → exec (.pressure ft zone time v) s =
        .next (replied s f .noSuch (itemOnly 0))) ∧
      ((s.zone z).condition = .fault → exec (.pressure ft zone time v) s =
        .next (replied s f .wrongState (itemOnly 0))) ∧
      ((s.zone z).condition ≠ .unconfigured → (s.zone z).condition ≠ .fault →
        (s.time.partTime + 300 < time.toNat → exec (.pressure ft zone time v) s =
          .next (replied s f .tooNew (itemOnly 0))) ∧
        (time.toNat ≤ s.time.partTime + 300 → (s.zone z).record = none →
          ((∃ n, s.time.grid.ws n ≤ time.toNat ∧ time.toNat < s.time.grid.we n) → gridFault s.time.grid = none →
            exec (.pressure ft zone time v) s = .next (replied s f .late (itemOnly 0))) ∧
          ((∀ n, time.toNat < s.time.grid.ws n ∨ s.time.grid.we n ≤ time.toNat) →
            exec (.pressure ft zone time v) s = .next (replied s f .ok [2]))) ∧
        (∀ r : NightRecord, time.toNat ≤ s.time.partTime + 300 → (s.zone z).record = some r →
          (s.time.grid.ws r.night ≤ time.toNat → time.toNat < s.time.grid.we r.night → r.state = .closing →
            exec (.pressure ft zone time v) s = .next (replied s f .late (itemOnly 0))) ∧
          (∀ (k : Nat) (b added : Bin), s.time.grid.ws r.night ≤ time.toNat → time.toNat < s.time.grid.we r.night →
            r.state ≠ .closing → k = (time.toNat - s.time.grid.ws r.night) / (s.time.grid.interval * 60) →
            r.bins[k]? = some b →
            added = { b with pressureSum := b.pressureSum + min 20000 v.toNat, pressureCount := b.pressureCount + 1 } →
            (b.pressureCount < 255 → exec (.pressure ft zone time v) s = .next (replied
              (s.putZone z { s.zone z with record := some { r with bins := r.bins.set k added } })
              f .ok ([0] ++ be16 (BitVec.ofNat 16 r.night) ++
                [BitVec.ofNat 8 k, BitVec.ofNat 8 (b.pressureCount + 1)] ++ be16 (BitVec.ofNat 16 (min 20000 v.toNat))))) ∧
            (255 ≤ b.pressureCount → exec (.pressure ft zone time v) s = .next (replied s f .ok
              ([1] ++ be16 (BitVec.ofNat 16 r.night) ++ [BitVec.ofNat 8 k, BitVec.ofNat 8 b.pressureCount])))) ∧
          ((∃ n, n < r.night ∧ s.time.grid.ws n ≤ time.toNat ∧ time.toNat < s.time.grid.we n) →
            gridFault s.time.grid = none →
            exec (.pressure ft zone time v) s = .next (replied s f .late (itemOnly 0))) ∧
          ((∀ n, n ≤ r.night → time.toNat < s.time.grid.ws n ∨ s.time.grid.we n ≤ time.toNat) →
            exec (.pressure ft zone time v) s = .next (replied s f .ok [2])))))

/-- SET-PRESSURE-TABLE (R87), with 17 entries and with none; every reply carries the table in force after the request, the
refusal after its detail (R182). -/
def Obligations.PressureTableIsSetAndRead : Prop :=
  ∀ (ft : Byte) (entries : Vector W16 17) (s : State) (f q : Frame),
    encodeRequest (.setPressureTable ft entries) = some f → encodeRequest (.pressureTableQuery ft) = some q →
    (Free s f → s.mode = .setup → exec (.setPressureTable ft entries) s =
      .next (replied { s with table := entries } f .ok (entries.toList.flatMap be16))) ∧
    (Free s f → s.mode ≠ .setup → exec (.setPressureTable ft entries) s =
      .next (replied s f .wrongState (itemOnly 0 ++ s.table.toList.flatMap be16))) ∧
    (Free s q → exec (.pressureTableQuery ft) s = .next (replied s q .ok (s.table.toList.flatMap be16)))

/-- The mean pressure of an hour (R89): the mean, rounded down, of the rounded-down means of its sampled bins, when at least
ceil(W / 2) of its bins are sampled. -/
def Obligations.MeanPressureOfBinMeans : Prop :=
  ∀ (g : Grid) (hour sampled : List Bin), sampled = hour.filter (fun b => decide (1 ≤ b.pressureCount)) →
    (sampled.length < (60 / g.interval + 1) / 2 → g.meanPressure hour = none) ∧
    ((60 / g.interval + 1) / 2 ≤ sampled.length → g.meanPressure hour =
      some ((sampled.map fun b => b.pressureSum / b.pressureCount).sum / sampled.length))

/-! ## Nights -/

/-- ANALYSER_TAKE_ZONE (R96, R97, R164): an idle analyser takes the lowest-numbered zone of the closing set, or, of zones that
joined the empty set in one instant while it was idle and alone make it up, any one of them (log 24). An entry that matches
gives the settings and the FAULTED slots of the judgement; one that mismatches puts the zone in FAULT, with its record
discarded. With a zone in hand, a RESTART taken or an empty closing set the row has no effect (log 2). -/
def Obligations.AnalyserTakesLowestZone : Prop :=
  ∀ s : State,
    ((s.analyser.analysing ≠ none ∨ s.ctl.restarting = true ∨ s.closingSet = []) →
      ∀ pick, exec (.analyserTakeZone pick) s = .next s) ∧
    (∀ (pick : Option ZoneId) (z : ZoneId) (r : NightRecord) (work : Analysis), s.analyser.analysing = none →
      s.ctl.restarting = false → (s.zone z).record = some r → r.state = .closing →
      (((pick = none ∨ s.closingSet ≠ s.analyser.raced) ∧ ∀ y, y < z → (s.zone y).isClosing = false) ∨
        (pick = some z ∧ s.closingSet = s.analyser.raced)) →
      work = { zone := z, settings := (s.zone z).entry.settings, deferredFault := false,
               faulted := (r.members.map (·.slot)).filter fun m => (s.meter m).state = .faulted } →
      (s.entryMatches (.zone z) = true → (s.zone z).mark = false → exec (.analyserTakeZone pick) s =
        .next { s with analyser := { analysing := some work, raced := [] } }) ∧
      (s.entryMatches (.zone z) = false → (s.zone z).mark = false → (s.zone z).kept ≠ .unconfigured →
        ∃ t, exec (.analyserTakeZone pick) s = .next t ∧
          t = { s with zones := t.zones, analyser := { analysing := none, raced := [] }, findings := t.findings,
                       attn := t.attn } ∧
          (t.zone z).condition = .fault ∧ (t.zone z).record = none ∧ (t.zone z).mark = true ∧
          (∀ y, y ≠ z → t.zone y = s.zone y) ∧
          (s.findings.length < 32 → t.findings = s.findings ++ [⟨.entryFault, .zone z, none, none, none⟩])))

/-- NIGHT_ANALYSIS_END (R91, R97, R106, R107, R143, R144): the night's outcome is worked by the zone and its findings join the
queue in order, as far as it has room; the last close record is written; the record is replaced by that of the next night when
that is on the grid; NIGHT-CLOSED is raised. An entry fault that waited then puts the zone in FAULT, discards the new record
and offers its finding. A leaving phase counts the zone, once (R160, log 41). With no analysis in hand the row has no effect
(log 2). `cls` is the night's class, `w` the zone and
the findings that its work makes (R106 step 1), `offered` all the findings offered. -/
def Obligations.AnalysisEndClosesNight : Prop :=
  (∀ s : State, s.analyser.analysing = none → exec .nightAnalysisEnd s = .next s) ∧
  (∀ (s : State) (a : Analysis) (r : NightRecord) (cls : NightClass) (w : Zone × List Finding) (offered : List Finding)
    (full : Prop), s.analyser.analysing = some a → (s.zone a.zone).record = some r → cls = s.judge a r →
    w = (s.zone a.zone).work a.settings a.zone r.night cls →
    (a.deferredFault = true → (s.zone a.zone).kept ≠ .unconfigured) →
    offered = w.2 ++ (if a.deferredFault then [⟨.entryFault, .zone a.zone, none, none, none⟩] else []) →
    (full ↔ 32 < s.findings.length + offered.length) → s.findings.length ≤ 32 →
    ∃ t next, exec .nightAnalysisEnd s = .next t ∧
      t = { s with zones := t.zones, analyser := { s.analyser with analysing := none }, findings := t.findings,
                   attn := t.attn, ctl := t.ctl } ∧
      t.ctl = { s.ctl with leaving := s.ctl.leaving.map fun l => { l with analysed := l.analysed.insert a.zone } } ∧
      (∀ y, y ≠ a.zone → t.zone y = s.zone y) ∧
      t.findings = s.findings ++ offered.take (32 - s.findings.length) ∧
      t.attn.mask = s.attn.mask ∧ t.attn.latched &&& 0x80 = 0x80 ∧
      t.attn.latched &&& 0x7C = s.attn.latched &&& 0x7C ∧
      ((s.findings = [] ∧ offered ≠ []) → t.attn.latched &&& 0x01 = 0x01) ∧
      ((s.findings ≠ [] ∨ offered = []) → t.attn.latched &&& 0x01 = s.attn.latched &&& 0x01) ∧
      (full → t.attn.latched &&& 0x02 = 0x02 ∧ (t.zone a.zone).lost = true) ∧
      (¬full → t.attn.latched &&& 0x02 = s.attn.latched &&& 0x02 ∧ (t.zone a.zone).lost = (s.zone a.zone).lost) ∧
      (a.deferredFault = false → t.zone a.zone =
        { w.1 with lastClose := some { night := r.night, cls := cls }, record := next, lost := (t.zone a.zone).lost }) ∧
      (a.deferredFault = true → t.zone a.zone =
        { w.1 with lastClose := some { night := r.night, cls := cls }, record := none, kept := .fault
                   lost := (t.zone a.zone).lost }) ∧
      (4294967295 < s.time.grid.deadline (r.night + 1) → next = none) ∧
      (s.time.grid.deadline (r.night + 1) ≤ 4294967295 → ∃ r' : NightRecord, next = some r' ∧
        r'.night = r.night + 1 ∧ r'.changed = false ∧
        r'.held = (decide (r'.state = .collecting) && s.holdActive a.zone) ∧
        r'.bins = List.replicate s.time.grid.binCount { volume := 0, pressureSum := 0, pressureCount := 0 } ∧
        r'.members = (s.memberSet a.zone).map (fun p => { slot := p.1, dir := p.2, reach := none, gaps := 0 }) ∧
        r'.state = (if s.time.partTime < s.time.grid.ws (r.night + 1) then .waiting
          else if s.time.partTime < s.time.grid.we (r.night + 1) then .collecting
          else if s.time.partTime < s.time.grid.deadline (r.night + 1) then .draining else .closing)))

/-- The class of a night (R98): HELD, then MEMBERSHIP-CHANGED, then SHORT, then BALANCE, then JUDGED, with C from the leak
part and the factor (R101, R102, R105), which is 16 384 for both UNCORRECTED answers, SWITCH-OFF and FEW-SAMPLES (R102). -/
def Obligations.NightClassInOrder : Prop :=
  ∀ (s : State) (a : Analysis) (r : NightRecord) (complete : Nat),
    complete = (s.time.grid.completeBins r a.faulted).length →
    (r.held = true → s.judge a r = .held) ∧
    (r.held = false → r.changed = true → s.judge a r = .membershipChanged) ∧
    (r.held = false → r.changed = false → s.time.grid.minimumHour r a.faulted = none →
      s.judge a r = .short complete) ∧
    (∀ (start : Nat) (sum mnf : Int), r.held = false → r.changed = false →
      s.time.grid.minimumHour r a.faulted = some (start, sum) → mnf = max (-2147483647) (min 2147483647 sum) →
      (mnf < -a.settings.balance.toInt → s.judge a r = .balance complete mnf start) ∧
      (-a.settings.balance.toInt ≤ mnf → ∃ (answer : PressureAnswer) (factor : Nat),
        answer = s.time.grid.pressureAnswer a.settings ((r.bins.drop start).take (60 / s.time.grid.interval)) ∧
        factor = factorOf s.table answer ∧ (a.settings.correction = 0 → answer = .switchOff ∧ factor = 16384) ∧
        (a.settings.correction ≠ 0 →
          s.time.grid.meanPressure ((r.bins.drop start).take (60 / s.time.grid.interval)) = none →
          answer = .fewSamples ∧ factor = 16384) ∧
        s.judge a r = .judged complete mnf start answer factor
          (min 2147483647 ((max 0 (mnf - a.settings.lz.toInt) * factor + 8192) / 16384))))

/-- A bin is complete when the record has a member and every member's reach is at or after its end, the bin is not in the
member's gap set, and the member's slot was not FAULTED (R99). The minimum hour (R100): its bins are all complete; no complete
hour has a smaller exact sum; and among the hours with that sum it has the lowest start bin. -/
def Obligations.MinimumHourIsLeastAndFirst : Prop :=
  ∀ (g : Grid) (r : NightRecord) (faulted : List SlotId) (hour : Nat → Prop), 0 < g.interval → g.interval ≤ 60 →
    (∀ h, hour h ↔ (h + 60 / g.interval ≤ g.binCount ∧
      ∀ i, i < 60 / g.interval → g.binComplete r faulted (h + i) = true)) →
    (∀ k, k < 32 → (g.binComplete r faulted k = true ↔ (r.members ≠ [] ∧ ∀ e ∈ r.members,
      (∃ t, e.reach = some t ∧ g.binStart r.night (k + 1) ≤ t) ∧ e.gaps.getLsbD k = false ∧ e.slot ∉ faulted))) ∧
    g.completeBins r faulted = (List.range g.binCount).filter (fun k => g.binComplete r faulted k) ∧
    ((∀ h, ¬hour h) → g.minimumHour r faulted = none) ∧
    (∀ h sum, g.minimumHour r faulted = some (h, sum) →
      hour h ∧ sum = (((r.bins.drop h).take (60 / g.interval)).map (·.volume)).sum ∧
      (∀ h', hour h' → sum ≤ (((r.bins.drop h').take (60 / g.interval)).map (·.volume)).sum) ∧
      (∀ h', hour h' → (((r.bins.drop h').take (60 / g.interval)).map (·.volume)).sum = sum → h ≤ h')) ∧
    ((∃ h, hour h) → g.minimumHour r faulted ≠ none)

/-- The position in the table and the factor (R103, R104): the ratio is clamped, the position splits into entry index and
fraction, and the factor is interpolated with a floor and lies between its two entries. With the correction off, or too few
samples, the answer is UNCORRECTED and the factor 16 384 (R102). -/
def Obligations.FactorIsInterpolated : Prop :=
  (∀ (g : Grid) (x : ZoneSettings) (hour : List Bin) (t : Vector W16 17),
    (x.correction = 0 → g.pressureAnswer x hour = .switchOff ∧ factorOf t .switchOff = 16384) ∧
    (x.correction ≠ 0 → g.meanPressure hour = none →
      g.pressureAnswer x hour = .fewSamples ∧ factorOf t .fewSamples = 16384)) ∧
  ∀ (g : Grid) (x : ZoneSettings) (hour : List Bin) (t : Vector W16 17) (pavg ratio i r : Nat) (e : Nat → Nat),
    x.correction ≠ 0 → g.meanPressure hour = some pavg → (∀ k, e k = (t.toList.getD k 0).toNat) →
    ratio = (if pavg = 0 then 98304 else max 32768 (min 98304 (x.pref.toNat * 65536 / pavg))) →
    i = (ratio * 16 - 524288) / 65536 → r = ratio * 16 - 524288 - i * 65536 →
    i ≤ 16 ∧ r < 65536 ∧ (i = 16 → r = 0) ∧
    g.pressureAnswer x hour = .corrected pavg ratio i r ∧
    (i = 16 → factorOf t (.corrected pavg ratio i r) = e 16) ∧
    (i < 16 → (factorOf t (.corrected pavg ratio i r) : Int) =
      e i + (((e (i + 1) : Int) - e i) * r).fdiv 65536) ∧
    (i < 16 → min (e i) (e (i + 1)) ≤ factorOf t (.corrected pavg ratio i r) ∧
      factorOf t (.corrected pavg ratio i r) ≤ max (e i) (e (i + 1)))

/-- The early close test (R94): a COLLECTING or DRAINING record with a member, whose members all have reach at or after We,
becomes CLOSING; any other record stays as it was, and so does every other zone. -/
def Obligations.EarlyCloseNeedsEveryReach : Prop :=
  ∀ (s : State) (z : ZoneId) (r : NightRecord), (s.zone z).record = some r →
    ((r.state = .collecting ∨ r.state = .draining) → r.members ≠ [] →
      (∀ e ∈ r.members, ∃ t, e.reach = some t ∧ s.time.grid.we r.night ≤ t) →
      s.earlyClose z = s.putZone z { s.zone z with record := some { r with state := .closing } }) ∧
    ((r.state = .waiting ∨ r.state = .closing ∨ r.members = [] ∨
        ∃ e ∈ r.members, ∀ t, e.reach = some t → t < s.time.grid.we r.night) → s.earlyClose z = s)

/-! ## Zones -/

/-- SET-ZONE (R21) and its unconfigure option (R22): the refusals; the entry written in full with a matching code and a
clear fault mark; and the effect by the condition before. The model's choices in it: the item that `zoneItem` charges for a K
above 8 (log 25); the condition byte in the OK reply of the unconfigure option (log 16); and INVALID for a zone that is
UNCONFIGURED already while a bound slot has a membership in it (log 42). -/
def Obligations.SetZoneWritesOrUnconfigures : Prop :=
  ∀ (ft zone option : Byte) (x : ZoneSettings) (s : State) (f : Frame) (c : Instr),
    (c = .setZone ft zone option x ∨ (c = .setZoneUnconfigure ft zone x ∧ option = 1)) → encodeRequest c = some f →
    Free s f →
    (s.mode ≠ .setup → exec c s = .next (replied s f .wrongState (itemOnly 0))) ∧
    (s.mode = .setup → 47 < zone.toNat → exec c s = .next (replied s f .range (itemOnly 0))) ∧
    (s.mode = .setup → zone.toNat ≤ 47 → 1 < option.toNat → exec c s = .next (replied s f .range (itemOnly 1))) ∧
    (∀ (z : ZoneId) (item : Byte), s.mode = .setup → zone.toNat = z.val → option = 0 → zoneItem x = some item →
      exec c s = .next (replied s f .range (itemOnly item))) ∧
    (∀ (z : ZoneId) (old written : Zone), s.mode = .setup → zone.toNat = z.val → option = 0 → zoneItem x = none →
      old = s.zone z →
      written = { old with entry := { configured := 1, settings := x }
                           code := zoneCode { configured := 1, settings := x }, mark := false } →
      ∃ t, exec c s = .next (replied t f .ok [BitVec.ofNat 8 (t.zone z).condition.code]) ∧
        t = { s with zones := t.zones } ∧ (∀ y, y ≠ z → t.zone y = s.zone y) ∧
        (old.condition = .unconfigured → { t.zone z with record := old.record } =
          { written with kept := .settling, baseline := 0, spread := 0, settling := 0, history := [], run := 0,
                         episodes := 0, holdFlag := false, lost := false, lastClose := none }) ∧
        (old.condition = .fault → { t.zone z with record := old.record } =
          { written with run := 0, kept := if x.nSettle.toNat ≤ old.settling then .clear else .settling }) ∧
        (old.condition = .settling → { t.zone z with record := old.record } =
          { written with kept := if x.nSettle.toNat ≤ old.settling then .clear else .settling }) ∧
        (old.condition ≠ .unconfigured → old.condition ≠ .fault → old.condition ≠ .settling →
          { t.zone z with record := old.record } = written)) ∧
    (∀ (z : ZoneId) (m : SlotId), s.mode = .setup → zone.toNat = z.val → option = 1 →
      (∃ q ∈ (s.meter m).members, q.1 = z) → (∀ k, k < m → ∀ q ∈ (s.meter k).members, q.1 ≠ z) →
      exec c s = .next (replied s f .invalid [0, 1, zone, 2, BitVec.ofNat 8 m.val])) ∧
    (∀ z : ZoneId, s.mode = .setup → zone.toNat = z.val → option = 1 → (∀ k, ∀ q ∈ (s.meter k).members, q.1 ≠ z) →
      ((s.zone z).condition = .unconfigured → exec c s = .next (replied s f .ok [0])) ∧
      ((s.zone z).condition ≠ .unconfigured → exec c s = .next (replied (s.putZone z resetZone) f .ok [0])))

/-- HOLD-ZONE (R138, R93): the refusals; the flag; and the held mark of a COLLECTING record whose hold becomes active. -/
def Obligations.HoldZoneSetsFlag : Prop :=
  ∀ (ft zone action : Byte) (s : State) (f : Frame) (c : Instr),
    (c = .holdZoneSet ft zone action ∨ (c = .holdZoneRelease ft zone ∧ action = 1)) → encodeRequest c = some f →
    Free s f →
    (s.mode = .starting → exec c s = .next (replied s f .wrongState (itemOnly 0))) ∧
    (s.mode ≠ .starting → 47 < zone.toNat → exec c s = .next (replied s f .range (itemOnly 0))) ∧
    (s.mode ≠ .starting → zone.toNat ≤ 47 → 1 < action.toNat → exec c s = .next (replied s f .range (itemOnly 1))) ∧
    (∀ (z : ZoneId) (old : Zone) (line : Bool), s.mode ≠ .starting → zone.toNat = z.val → action.toNat ≤ 1 →
      old = s.zone z → line = s.lineAsserted (chanOf old.entry.settings.holdLine) →
      (old.condition = .unconfigured → exec c s = .next (replied s f .noSuch (itemOnly 0))) ∧
      (old.condition ≠ .unconfigured → action = 1 → exec c s =
        .next (replied (s.putZone z { old with holdFlag := false }) f .ok [0, if line then 1 else 0])) ∧
      (old.condition ≠ .unconfigured → action = 0 → (old.holdFlag = true ∨ line = true ∨ old.record = none) →
        exec c s = .next (replied (s.putZone z { old with holdFlag := true }) f .ok [1, 1])) ∧
      (∀ r r' : NightRecord, old.condition ≠ .unconfigured → action = 0 → old.holdFlag = false → line = false →
        old.record = some r → r' = (if r.state = .collecting then { r with held := true } else r) → exec c s =
          .next (replied (s.putZone z { old with holdFlag := true, record := some r' }) f .ok [1, 1])))

/-- CLEAR-ZONE (R139, R140): the tests in order, and the effect of the three options. `latest` is the C of the newest history
entry that has one. -/
def Obligations.ClearZoneActsByOption : Prop :=
  ∀ (ft zone option : Byte) (s : State) (f : Frame) (c : Instr),
    (c = .clearZoneRelearn ft zone option ∨ (c = .clearZoneRebase ft zone ∧ option = 1) ∨
      (c = .clearZoneKeep ft zone ∧ option = 2)) → encodeRequest c = some f → Free s f →
    (s.mode = .starting → exec c s = .next (replied s f .wrongState (itemOnly 0))) ∧
    (s.mode ≠ .starting → 47 < zone.toNat → exec c s = .next (replied s f .range (itemOnly 0))) ∧
    (s.mode ≠ .starting → zone.toNat ≤ 47 → 2 < option.toNat → exec c s = .next (replied s f .range (itemOnly 1))) ∧
    (∀ (z : ZoneId) (old : Zone) (latest : Option Int), s.mode ≠ .starting → zone.toNat = z.val → option.toNat ≤ 2 →
      old = s.zone z → latest = old.history.findSome? (·.corrected) →
      ((old.condition = .unconfigured ∨ old.condition = .fault) →
        exec c s = .next (replied s f .wrongState (itemOnly 0))) ∧
      (old.condition ≠ .unconfigured → old.condition ≠ .fault →
        (∀ r, old.record = some r → r.state = .closing → exec c s = .next (replied s f .busy (itemOnly 0))) ∧
        ((∀ r, old.record = some r → r.state ≠ .closing) →
          (option = 1 → (old.settling < old.entry.settings.nSettle.toNat ∨ latest = none) →
            exec c s = .next (replied s f .invalid [0, 1, zone, 0, 0])) ∧
          (∀ new : Zone,
            ((option = 0 ∧ new = { old with
              run := 0, episodes := 0, baseline := 0, spread := 0, settling := 0, kept := .settling }) ∨
              (∃ b, option = 1 ∧ latest = some b ∧ old.entry.settings.nSettle.toNat ≤ old.settling ∧
                new = { old with run := 0, episodes := 0, baseline := b, kept := .clear }) ∨
              (option = 2 ∧ new = { old with run := 0, episodes := 0, kept :=
                if old.entry.settings.nSettle.toNat ≤ old.settling then .clear else .settling })) →
            exec c s = .next (replied (s.putZone z new) f .ok
              ([BitVec.ofNat 8 new.condition.code] ++ be32 (BitVec.ofInt 32 new.baseline) ++
                be32 (BitVec.ofInt 32 new.spread) ++ [BitVec.ofNat 8 new.settling, 0, 0]))))))

/-- BASELINE-PUT (R123). -/
def Obligations.BaselinePutWritesBaseline : Prop :=
  ∀ (ft zone n : Byte) (b sp : W32) (s : State) (f : Frame), encodeRequest (.baselinePut ft zone b sp n) = some f →
    Free s f →
    (s.mode ≠ .setup → exec (.baselinePut ft zone b sp n) s = .next (replied s f .wrongState (itemOnly 0))) ∧
    (s.mode = .setup → 47 < zone.toNat → exec (.baselinePut ft zone b sp n) s =
      .next (replied s f .range (itemOnly 0))) ∧
    (∀ (z : ZoneId) (old new : Zone), s.mode = .setup → zone.toNat = z.val → old = s.zone z →
      (old.condition = .unconfigured → exec (.baselinePut ft zone b sp n) s =
        .next (replied s f .noSuch (itemOnly 0))) ∧
      ((old.condition = .fault ∨ old.condition = .confirmed) → exec (.baselinePut ft zone b sp n) s =
        .next (replied s f .wrongState (itemOnly 0))) ∧
      (old.condition ≠ .unconfigured → old.condition ≠ .fault → old.condition ≠ .confirmed →
        (2147483647 < b.toNat → exec (.baselinePut ft zone b sp n) s = .next (replied s f .range (itemOnly 1))) ∧
        (b.toNat ≤ 2147483647 → 2147483647 < sp.toNat → exec (.baselinePut ft zone b sp n) s =
          .next (replied s f .range (itemOnly 5))) ∧
        (b.toNat ≤ 2147483647 → sp.toNat ≤ 2147483647 → 30 < n.toNat → exec (.baselinePut ft zone b sp n) s =
          .next (replied s f .range (itemOnly 9))) ∧
        (b.toNat ≤ 2147483647 → sp.toNat ≤ 2147483647 → n.toNat ≤ 30 →
          new = { old with baseline := (b.toNat : Int), spread := (sp.toNat : Int), settling := n.toNat, run := 0,
                           kept := if old.entry.settings.nSettle.toNat ≤ n.toNat then .clear else .settling } →
          exec (.baselinePut ft zone b sp n) s = .next (replied (s.putZone z new) f .ok
            ([BitVec.ofNat 8 new.condition.code] ++ be32 b ++ be32 sp ++ [n])))))

/-- The verdict of a JUDGED night (R112, R113): SETTLING in SETTLING; otherwise BURST from Tb, EXCEED above T, NORMAL up
to T, where T is the greater of Tfloor and floor(k × S / 4). -/
def Obligations.VerdictByExcess : Prop :=
  ∀ (z : Zone) (x : ZoneSettings) (c excess t : Int), excess = c - z.baseline →
    t = max x.tfloor.toInt (((x.multiplier.toNat : Int) * z.spread) / 4) →
    (z.kept = .settling → z.verdict x c = .settling) ∧
    (z.kept ≠ .settling → x.tburst.toInt ≤ excess → z.verdict x c = .burst) ∧
    (z.kept ≠ .settling → excess < x.tburst.toInt → t < excess → z.verdict x c = .exceed) ∧
    (z.kept ≠ .settling → excess < x.tburst.toInt → excess ≤ t → z.verdict x c = .normal)

/-- The settling update (R117, R118, R119) and the shifted update (R117, R120) of a zone whose B and S lie in their range,
for a C in its range: the running mean truncates, the shifted mean floors, and both stay in the range (R121). -/
def Obligations.BaselineUpdatesRound : Prop :=
  ∀ (z : Zone) (x : ZoneSettings) (c delta : Int) (n : Nat), FlowOk z.baseline → FlowOk z.spread → FlowOk c →
    delta = ((c - z.baseline).natAbs : Int) → n = z.settling + 1 →
    (n = 1 → z.settlingUpdate x c =
      { z with
        settling := 1
        baseline := c
        spread := 0
        kept := if x.nSettle.toNat ≤ 1 then .clear else z.kept }) ∧
    (2 ≤ n → z.settlingUpdate x c =
      { z with
        settling := n
        baseline := z.baseline + (c - z.baseline).tdiv n
        spread := z.spread + (delta - z.spread).tdiv n
        kept := if x.nSettle.toNat ≤ n then .clear else z.kept }) ∧
    z.shiftedUpdate x c =
      { z with
        baseline := z.baseline + (c - z.baseline).fdiv (2 ^ x.shift.toNat)
        spread := z.spread + (delta - z.spread).fdiv (2 ^ x.shift.toNat) }

/-- A night's outcome worked by the zone (R114 to R119, R126 to R134). A JUDGED night: the update the verdict calls for, the
history entry at the front with every entry of the same or a later night removed and at most eight held, run, and the condition
and finding of step 4; in SETTLING the settling update, its SETTLED finding when it ends settling, and run as it was. HELD,
INCOMPLETE and BALANCE are recorded and change nothing else; BALANCE makes its finding. `x` are the settings read, `add` puts
an entry into the history, `n` is the zone with its history and run brought up to date, `high` is X of R129. -/
def Obligations.JudgedNightMovesZone : Prop :=
  ∀ (z : Zone) (x : ZoneSettings) (zid : ZoneId) (night : Nat)
    (add : Zone → NightOutcome → Option Int → Option Int → Option Int → Bool → List HistoryEntry),
    (∀ (y : Zone) (h : HistoryEntry), h.night = night →
      add y h.outcome h.corrected h.excess h.mnf h.uncorrected =
        (h :: y.history.filter fun older => decide (older.night < night)).take 8) →
    (z.work x zid night .held = ({ z with history := add z .held none none none false }, []) ∧
      z.work x zid night .membershipChanged = ({ z with history := add z .incomplete none none none false }, []) ∧
      (∀ complete, z.work x zid night (.short complete) =
        ({ z with history := add z .incomplete none none none false }, [])) ∧
      z.work x zid night .ended = ({ z with history := add z .incomplete none none none false }, []) ∧
      (∀ complete mnf start, z.work x zid night (.balance complete mnf start) =
        ({ z with history := add z .balance none none (some mnf) false },
          [{ kind := .balance, subject := .zone zid, night := some night, figures := none, mnf := some mnf }])) ∧
      (∀ complete mnf start answer factor c, z.work x zid night (.judged complete mnf start answer factor c) =
        z.workJudged x zid night mnf c answer.uncorrected)) ∧
    (∀ (n : Zone) (mnf c e : Int) (mark : Bool) (v : NightOutcome) (high : Nat) (finding : FindingKind → List Finding),
      e = c - z.baseline → v = z.verdict x c →
      (∀ k, finding k =
        [{ kind := k, subject := .zone zid, night := some night, figures := some (c, e), mnf := none }]) →
      (z.kept = .settling →
        (x.nSettle.toNat ≤ z.settling + 1 → z.workJudged x zid night mnf c mark =
          ({ z.settlingUpdate x c with history := add z .settling (some c) (some e) (some mnf) mark, kept := .clear },
            finding .settled)) ∧
        (z.settling + 1 < x.nSettle.toNat → z.workJudged x zid night mnf c mark =
          ({ z.settlingUpdate x c with history := add z .settling (some c) (some e) (some mnf) mark, kept := .settling },
            []))) ∧
      (z.kept ≠ .settling → z.kept ≠ .unconfigured → z.kept ≠ .fault →
        n = { (if v = .normal ∧ z.kept ≠ .confirmed then z.shiftedUpdate x c else z) with
              history := add z v (some c) (some e) (some mnf) mark
              run := if v = .normal then min 7 (z.run + 1) else 0 } →
        high = (((n.history.filter fun h => h.outcome = .normal ∨ h.outcome = .exceed ∨ h.outcome = .burst).take
          x.mNights.toNat).filter fun h => h.outcome = .exceed ∨ h.outcome = .burst).length →
        (v = .normal →
          ((z.kept = .clear ∨ z.kept = .confirmed ∨ z.run + 1 < x.rClear.toNat) → x.rClear.toNat ≤ 7 →
            z.workJudged x zid night mnf c mark = (n, [])) ∧
          (z.kept ≠ .clear → z.kept ≠ .confirmed → x.rClear.toNat ≤ 7 → x.rClear.toNat ≤ z.run + 1 →
            z.workJudged x zid night mnf c mark = ({ n with kept := .clear }, finding .cleared))) ∧
        (v = .exceed →
          (z.kept = .clear → high < x.kNights.toNat →
            z.workJudged x zid night mnf c mark = ({ n with kept := .watch }, finding .watch)) ∧
          (z.kept = .watch → high < x.kNights.toNat → z.workJudged x zid night mnf c mark = (n, [])) ∧
          ((z.kept = .suspect ∨ z.kept = .confirmed) → z.workJudged x zid night mnf c mark = (n, [])) ∧
          ((z.kept = .burst ∨ ((z.kept = .clear ∨ z.kept = .watch) ∧ x.kNights.toNat ≤ high)) →
            ((x.lLatch = 0 ∨ min 15 (z.episodes + 1) < x.lLatch.toNat) → z.workJudged x zid night mnf c mark =
              ({ n with episodes := min 15 (z.episodes + 1), kept := .suspect }, finding .suspect)) ∧
            (x.lLatch ≠ 0 → x.lLatch.toNat ≤ min 15 (z.episodes + 1) → z.workJudged x zid night mnf c mark =
              ({ n with episodes := min 15 (z.episodes + 1), kept := .confirmed }, finding .confirmed)))) ∧
        (v = .burst →
          (z.kept ≠ .confirmed → z.workJudged x zid night mnf c mark = ({ n with kept := .burst }, finding .burst)) ∧
          (z.kept = .confirmed → z.workJudged x zid night mnf c mark = (n, finding .burst)))))

/-! ## Findings and attention -/

/-- FINDINGS-TAKE (R145). -/
def Obligations.FindingsTakeReturnsOldest : Prop :=
  ∀ (ft n : Byte) (s : State) (f : Frame) (taken left : List Finding), encodeRequest (.findingsTake ft n) = some f →
    Free s f →
    ((n = 0 ∨ 6 < n.toNat) → exec (.findingsTake ft n) s = .next (replied s f .range (itemOnly 0))) ∧
    (1 ≤ n.toNat → n.toNat ≤ 6 → s.findings = taken ++ left → taken.length = min n.toNat s.findings.length →
      exec (.findingsTake ft n) s = .next (replied { s with findings := left } f .ok
        ([BitVec.ofNat 8 taken.length, BitVec.ofNat 8 left.length] ++ taken.flatMap findingBytes)))

/-- A finding offered to the queue (R144, R168, R169): it joins as the newest, latching FINDING when the queue was empty;
with 32 held it is lost, its subject's mark is set and QUEUE-FULL latches. -/
def Obligations.OfferedFindingJoinsOrIsLost : Prop :=
  ∀ (s : State) (x : Finding),
    (s.findings = [] → s.offer x =
      { s with findings := [x], attn := { s.attn with latched := s.attn.latched ||| 0x01 } }) ∧
    (s.findings ≠ [] → s.findings.length < 32 → s.offer x = { s with findings := s.findings ++ [x] }) ∧
    (∀ z, 32 ≤ s.findings.length → x.subject = .zone z → s.offer x =
      { s.putZone z { s.zone z with lost := true } with attn := { s.attn with latched := s.attn.latched ||| 0x02 } }) ∧
    (∀ m, 32 ≤ s.findings.length → x.subject = .meter m → s.offer x =
      { s.putMeter m { s.meter m with lost := true } with attn := { s.attn with latched := s.attn.latched ||| 0x02 } })

/-- ATTN-GET, ATTN-CLEAR and ATTN-ENABLE (R171, R172, R173), with the line of R170 in each reply's ATTN bit: ATTN-CLEAR
leaves latched exactly the latched flags outside its set and, in its set, the level flags whose raw condition stands. -/
def Obligations.AttentionRequestsAnswerSets : Prop :=
  ∀ (ft b : Byte) (s : State) (raw : Byte) (latched : Byte),
    raw = (if s.findings = [] then 0 else 0x01) ||| (if s.faultedCount = 0 then 0 else 0x04) →
    latched = (s.attn.latched &&& ~~~b) ||| (raw &&& b) →
    (∀ f, encodeRequest (.attnGet ft) = some f → Free s f → exec (.attnGet ft) s =
      .next (replied s f .ok [raw, s.attn.latched, s.attn.mask])) ∧
    (∀ f, encodeRequest (.attnClear ft b) = some f → Free s f → exec (.attnClear ft b) s =
      .next (replied { s with attn := { s.attn with latched := latched } } f .ok [raw, latched, s.attn.mask])) ∧
    (∀ f, encodeRequest (.attnEnable ft b) = some f → Free s f → exec (.attnEnable ft b) s =
      .next (replied { s with attn := { s.attn with mask := b } } f .ok [raw, s.attn.latched, b])) ∧
    (∀ f st body, s.link.resetLow = false →
      ((replyOf s f st body).attn = true ↔ s.attn.latched &&& s.attn.mask ≠ 0))

/-! ## Entry checker -/

/-- A verification (R147 to R150, R169): an entry that matches, or whose fault mark is set, is left alone; a mismatch of an
unmarked entry sets the mark, takes the entry out of service and offers the ENTRY-FAULT finding (here with room in the
queue); for the zone the analyser holds only the mark is set, and the rest waits (R97). -/
def Obligations.VerificationMakesNewFault : Prop :=
  ∀ s : State,
    (∀ e, (s.entryMatches e = true ∨ s.entryMark e = true) → s.verify e = s) ∧
    (∀ e, s.entryMatches e = false → s.entryMark e = false → s.faultedCount = 0 →
      (s.verify e).attn.latched &&& 0x04 = 0x04) ∧
    (∀ m, s.entryMatches (.meter m) = false → s.entryMark (.meter m) = false → s.findings.length < 32 →
      ∃ t, s.verify (.meter m) = t ∧ t = { s with meters := t.meters, findings := t.findings, attn := t.attn } ∧
        t.findings = s.findings ++ [⟨.entryFault, .meter m, none, none, none⟩] ∧
        (∀ k, k ≠ m → t.meter k = s.meter k) ∧
        t.meter m = { s.meter m with mark := true, state :=
          if (s.meter m).state = .unbound then .unbound else .faulted }) ∧
    (∀ z, s.entryMatches (.zone z) = false → s.entryMark (.zone z) = false → s.findings.length < 32 →
      (∀ a, s.analyser.analysing = some a → a.zone ≠ z) →
      ∃ t, s.verify (.zone z) = t ∧ t = { s with zones := t.zones, findings := t.findings, attn := t.attn } ∧
        t.findings = s.findings ++ [⟨.entryFault, .zone z, none, none, none⟩] ∧
        (∀ y, y ≠ z → t.zone y = s.zone y) ∧
        ((s.zone z).kept = .unconfigured → t.zone z = { s.zone z with mark := true }) ∧
        ((s.zone z).kept ≠ .unconfigured → t.zone z =
          { s.zone z with mark := true, kept := .fault, record := none })) ∧
    (∀ a, s.analyser.analysing = some a → s.entryMatches (.zone a.zone) = false → s.entryMark (.zone a.zone) = false →
      ∃ t, s.verify (.zone a.zone) = t ∧ t = { s with zones := t.zones, analyser := t.analyser, attn := t.attn } ∧
        t.analyser.analysing = some { a with deferredFault := true } ∧
        (∀ y, y ≠ a.zone → t.zone y = s.zone y) ∧ t.zone a.zone = { s.zone a.zone with mark := true })

/-- CHECK_PASS and CHECK_PASS_VERIFY (R154, R155, R163): a pass begins or the request is answered BUSY; a pass verifies its
next entry and advances; after entry 175 it ends COMPLETED, and a start-up pass then leads to RUN with the records of the
first night, or back to SETUP when that night is off the grid. A record opened then has the state that part time gives it, the
held mark when it opens COLLECTING under an active hold, empty bins, and an entry for each member (R91, R93); RESTARTED goes
and READY comes. A RESTART taken ends STARTING (R162), so it is not waiting then. Without a pass CHECK_PASS_VERIFY has no
effect (log 2). `v` is the state after the verification. -/
def Obligations.CheckPassVerifiesEveryEntry : Prop :=
  (∀ (ft : Byte) (s : State) (f : Frame), encodeRequest (.checkPass ft) = some f → Free s f →
    (s.checker.pass ≠ none → exec (.checkPass ft) s = .next (replied s f .busy (itemOnly 0))) ∧
    (s.checker.pass = none → exec (.checkPass ft) s = .next (replied
      { s with checker := { s.checker with pass := some { origin := .request, next := 0, mismatches := 0 } } }
      f .accepted []))) ∧
  (∀ s : State, s.checker.pass = none → exec .checkPassVerify s = .next s) ∧
  (∀ (s v : State) (p : CheckPass) (found : Nat), s.checker.pass = some p → v = s.verify (entryOf p.next) →
    found = p.mismatches + (if s.entryMatches (entryOf p.next) then 0 else 1) →
    (p.next.val < 175 → exec .checkPassVerify s = .next { v with checker :=
      { s.checker with pass := some { p with next := p.next + 1, mismatches := found } } }) ∧
    (∀ (ended : State), p.next.val = 175 →
      ended = { v with checker := { s.checker with
        pass := none, lastPass := some { origin := p.origin, abandoned := false, checked := 176, mismatches := found } } } →
      ((p.origin = .request ∨ s.mode ≠ .starting) → exec .checkPassVerify s = .next ended) ∧
      (p.origin = .startUp → s.mode = .starting → s.ctl.restarting = false →
        4294967295 < s.time.grid.deadline (s.time.grid.firstNight s.time.partTime) →
        exec .checkPassVerify s = .next { ended with ctl := { s.ctl with mode := .setup } }) ∧
      (p.origin = .startUp → s.mode = .starting → s.ctl.restarting = false →
        s.time.grid.deadline (s.time.grid.firstNight s.time.partTime) ≤ 4294967295 →
        ∃ t, exec .checkPassVerify s = .next t ∧
          t = { ended with zones := t.zones, ctl := { s.ctl with mode := .run }, attn := t.attn } ∧
          t.attn = { ended.attn with latched := (ended.attn.latched &&& 0xDF) ||| 0x40 } ∧
          ∀ z, ((ended.zone z).inService = false → t.zone z = ended.zone z) ∧
            ((ended.zone z).inService = true → ∃ r, t.zone z = { ended.zone z with record := some r } ∧
              r.night = s.time.grid.firstNight s.time.partTime ∧
              r.state = (if s.time.partTime < s.time.grid.ws r.night then .waiting
                else if s.time.partTime < s.time.grid.we r.night then .collecting
                else if s.time.partTime < s.time.grid.deadline r.night then .draining else .closing) ∧
              (gridFault s.time.grid = none →
                r.state = if s.time.partTime = s.time.grid.ws r.night then .collecting else .waiting) ∧
              r.held = (decide (r.state = .collecting) && ended.holdActive z) ∧ r.changed = false ∧
              r.bins = List.replicate s.time.grid.binCount { volume := 0, pressureSum := 0, pressureCount := 0 } ∧
              r.members = (s.memberSet z).map (fun q => { slot := q.1, dir := q.2, reach := none, gaps := 0 })))))

/-! ## Reads -/

/-- ZONE-GET, METER-GET and CHANNEL-GET (R23, R33, R51): refused above the last number; otherwise the reply of the object's
fields, and the mark it reports is cleared. -/
def Obligations.ReadsClearTheMarkTheyReport : Prop :=
  (∀ (ft zone : Byte) (s : State) (f : Frame), encodeRequest (.zoneGet ft zone) = some f → Free s f →
    (47 < zone.toNat → exec (.zoneGet ft zone) s = .next (replied s f .range (itemOnly 0))) ∧
    (∀ z : ZoneId, zone.toNat = z.val → exec (.zoneGet ft zone) s =
      .next (replied (s.putZone z { s.zone z with lost := false }) f .ok (s.zoneGetBytes z)))) ∧
  (∀ (ft slot : Byte) (s : State) (f : Frame), encodeRequest (.meterGet ft slot) = some f → Free s f →
    (127 < slot.toNat → exec (.meterGet ft slot) s = .next (replied s f .range (itemOnly 0))) ∧
    (∀ m : SlotId, slot.toNat = m.val → exec (.meterGet ft slot) s =
      .next (replied (s.putMeter m { s.meter m with lost := false }) f .ok (s.meterGetBytes m)))) ∧
  (∀ (ft ch : Byte) (s : State) (f : Frame), encodeRequest (.channelGet ft ch) = some f → Free s f →
    (15 < ch.toNat → exec (.channelGet ft ch) s = .next (replied s f .range (itemOnly 0))) ∧
    (∀ x : ChanId, ch.toNat = x.val → exec (.channelGet ft ch) s =
      .next (replied (s.putChannel x { s.channel x with overflow := false }) f .ok (s.channelGetBytes x))))

/-- STATUS-GET (R187), HISTORY-GET (R142), BASELINE-GET (R122), ENTRY-RAW (R156) and the three parts of NIGHT-GET (R108):
taken in every mode, they change nothing but the link; STATUS-GET's body is 24 bytes. That VOLUMES and PRESSURE answer two
bytes of 0 for a zone with no open record, whatever first bin up to 31 they name, is the model's choice (logs 16 and 39). -/
def Obligations.PlainReadsChangeNothing : Prop :=
  (∀ (ft : Byte) (s : State) (f : Frame), encodeRequest (.statusGet ft) = some f → Free s f →
    exec (.statusGet ft) s = .next (replied s f .ok s.statusBytes) ∧ s.statusBytes.length = 24) ∧
  (∀ (ft zone : Byte) (s : State) (f : Frame) (z : ZoneId), encodeRequest (.historyGet ft zone) = some f → Free s f →
    (47 < zone.toNat → exec (.historyGet ft zone) s = .next (replied s f .range (itemOnly 0))) ∧
    (zone.toNat = z.val → (s.zone z).condition = .unconfigured → exec (.historyGet ft zone) s =
      .next (replied s f .noSuch (itemOnly 0))) ∧
    (zone.toNat = z.val → (s.zone z).condition ≠ .unconfigured → exec (.historyGet ft zone) s =
      .next (replied s f .ok (s.zone z).historyGetBytes))) ∧
  (∀ (ft zone : Byte) (s : State) (f : Frame) (z : ZoneId), encodeRequest (.baselineGet ft zone) = some f → Free s f →
    (47 < zone.toNat → exec (.baselineGet ft zone) s = .next (replied s f .range (itemOnly 0))) ∧
    (zone.toNat = z.val → (s.zone z).condition = .unconfigured → exec (.baselineGet ft zone) s =
      .next (replied s f .noSuch (itemOnly 0))) ∧
    (zone.toNat = z.val → (s.zone z).condition ≠ .unconfigured → exec (.baselineGet ft zone) s =
      .next (replied s f .ok (s.zone z).baselineGetBytes))) ∧
  (∀ (ft kind number : Byte) (s : State) (f : Frame), encodeRequest (.entryRaw ft kind number) = some f → Free s f →
    (1 < kind.toNat → exec (.entryRaw ft kind number) s = .next (replied s f .range (itemOnly 0))) ∧
    (kind = 0 → 47 < number.toNat → exec (.entryRaw ft kind number) s = .next (replied s f .range (itemOnly 1))) ∧
    (kind = 1 → 127 < number.toNat → exec (.entryRaw ft kind number) s = .next (replied s f .range (itemOnly 1))) ∧
    (∀ z : ZoneId, kind = 0 → number.toNat = z.val → exec (.entryRaw ft kind number) s = .next (replied s f .ok
      (zoneEntryBytes (s.zone z).entry ++ be16 (s.zone z).code ++ be16 (crc16 (zoneEntryBytes (s.zone z).entry)) ++
        [if s.entryMatches (.zone z) then 1 else 0, if (s.zone z).mark then 1 else 0]))) ∧
    (∀ m : SlotId, kind = 1 → number.toNat = m.val → exec (.entryRaw ft kind number) s = .next (replied s f .ok
      (bindingBytes (s.meter m).binding ++ be16 (s.meter m).code ++ be16 (crc16 (bindingBytes (s.meter m).binding)) ++
        [if s.entryMatches (.meter m) then 1 else 0, if (s.meter m).mark then 1 else 0])))) ∧
  (∀ (ft zone part first : Byte) (s : State) (f : Frame) (c : Instr),
    (c = .nightGetSummary ft zone part first ∨ (c = .nightGetVolumes ft zone first ∧ part = 1) ∨
      (c = .nightGetPressure ft zone first ∧ part = 2)) → encodeRequest c = some f → Free s f →
    (47 < zone.toNat → exec c s = .next (replied s f .range (itemOnly 0))) ∧
    (∀ z : ZoneId, zone.toNat = z.val →
      (2 < part.toNat → exec c s = .next (replied s f .range (itemOnly 1))) ∧
      (part = 0 → exec c s = .next (replied s f .ok (s.summaryBytes z))) ∧
      ((part = 1 ∨ part = 2) → 31 < first.toNat → exec c s = .next (replied s f .range (itemOnly 2))) ∧
      ((part = 1 ∨ part = 2) → first.toNat ≤ 31 → (s.zone z).record = none →
        exec c s = .next (replied s f .ok [0, 0])) ∧
      (∀ r, (part = 1 ∨ part = 2) → first.toNat ≤ 31 → (s.zone z).record = some r →
        (s.time.grid.binCount ≤ first.toNat → exec c s = .next (replied s f .range (itemOnly 2))) ∧
        (first.toNat < s.time.grid.binCount → part = 1 → exec c s =
          .next (replied s f .ok (r.volumesBytes first.toNat))) ∧
        (first.toNat < s.time.grid.binCount → part = 2 → exec c s =
          .next (replied s f .ok (r.pressureBytes first.toNat))))))

/-! ## Modes and resets -/

/-- ENTER-SETUP (R159, R162) by mode, and LEAVING_PHASE_END (R160), which has no effect before the phase's work is done or
outside it (log 2). In the leaving phase a pending commit is applied at once when the intake holds no item. The change to SETUP
ends every COLLECTING or DRAINING record INCOMPLETE, discards the others, turns WATCH to CLEAR, sets every run to 0, keeps the
rest of each zone, empties every capture list, abandons a pass, and raises no event. The reply counts each zone analysed once
(log 41). -/
def Obligations.EnterSetupEndsTheRun : Prop :=
  (∀ (ft : Byte) (s : State) (f : Frame), encodeRequest (.enterSetup ft) = some f → Free s f →
    (s.mode = .setup → exec (.enterSetup ft) s = .next (replied s f .wrongState (itemOnly 0))) ∧
    (s.mode = .starting → ∃ t, exec (.enterSetup ft) s = .next (replied t f .ok [0, 0, 0]) ∧
      t = { s with zones := t.zones, channels := t.channels, checker := s.checker.abandon,
                   analyser := { s.analyser with raced := [] },
                   ctl := { s.ctl with mode := .setup, leaving := none } } ∧
      (∀ x, t.channel x = { s.channel x with list := [] }) ∧
      (∀ z, t.zone z = { s.zone z with run := 0, record := none, kept :=
        if (s.zone z).kept = .watch then .clear else (s.zone z).kept })) ∧
    (s.mode = .run → (s.intake.hand ≠ .idle ∨ s.stage.commitPending = false) → exec (.enterSetup ft) s =
      .next (working { s with ctl := { s.ctl with leaving := some { applied := 0, analysed := [] } } } f)) ∧
    (s.mode = .run → s.intake.hand = .idle → s.stage.commitPending = true → ∃ t, exec (.enterSetup ft) s =
        .next (working t f) ∧ t = { s with meters := t.meters, zones := t.zones, stage := t.stage, ctl := t.ctl } ∧
      t.meters = s.applyCommit.meters ∧ t.zones = s.applyCommit.zones ∧
      t.stage = { bindings := [], commitPending := false, due := false } ∧
      t.ctl = { s.ctl with leaving := some { applied := s.stage.bindings.length, analysed := [] } })) ∧
  (∀ (s : State) (l : Leaving) (h : InHand), s.ctl.leaving = some l →
    ((s.intake.hand ≠ .idle ∨ s.stage.commitPending = true ∨ s.closingSet ≠ [] ∨ s.analyser.analysing ≠ none) →
      exec .leavingPhaseEnd s = .next s) ∧
    (s.intake.hand = .idle → s.stage.commitPending = false → s.closingSet = [] → s.analyser.analysing = none →
      s.link.hand = some h → s.link.resetLow = false →
      ∃ t, exec .leavingPhaseEnd s = .next (replied t h.frame .ok
          [BitVec.ofNat 8 l.applied, BitVec.ofNat 8 l.analysed.length, BitVec.ofNat 8 s.gatheringCount]) ∧
        t = { s with zones := t.zones, channels := t.channels, checker := s.checker.abandon,
                     analyser := { s.analyser with raced := [] },
                     ctl := { s.ctl with mode := .setup, leaving := none } } ∧
        (∀ x, t.channel x = { s.channel x with list := [] }) ∧
        (∀ z, t.zone z = { s.zone z with run := 0, record := none, history := (t.zone z).history,
                                         lastClose := (t.zone z).lastClose, kept :=
          if (s.zone z).kept = .watch then .clear else (s.zone z).kept }) ∧
        (∀ (z : ZoneId) (r : NightRecord) (entry : HistoryEntry), (s.zone z).record = some r →
          (r.state = .collecting ∨ r.state = .draining) →
          entry = { night := r.night, outcome := .incomplete, corrected := none, excess := none,
                    mnf := none, uncorrected := false } →
          (t.zone z).lastClose = some { night := r.night, cls := .ended } ∧
          (t.zone z).history =
            (entry :: (s.zone z).history.filter fun e => decide (e.night < r.night)).take 8) ∧
        (∀ z, (∀ r, (s.zone z).record = some r → r.state ≠ .collecting ∧ r.state ≠ .draining) →
          (t.zone z).lastClose = (s.zone z).lastClose ∧ (t.zone z).history = (s.zone z).history))) ∧
  (∀ s : State, s.ctl.leaving = none → exec .leavingPhaseEnd s = .next s)

/-- LEAVE-SETUP (R161, R154): its checks in order, and the start-up pass it begins. `unfit` are the zones that fail check 2,
`loose` the slots that fail check 3. -/
def Obligations.LeaveSetupChecksThenStarts : Prop :=
  ∀ (ft : Byte) (s : State) (f : Frame) (unfit : ZoneId → Prop) (loose : SlotId → Prop),
    encodeRequest (.leaveSetup ft) = some f → Free s f →
    (∀ z, unfit z ↔ ((s.zone z).condition ≠ .unconfigured ∧ (s.zone z).condition ≠ .fault ∧
      (zoneItem (s.zone z).entry.settings ≠ none ∨
        ∃ x : ChanId, (s.zone z).entry.settings.holdLine.toNat = x.val ∧ (s.channel x).mode ≠ .status))) →
    (∀ m, loose m ↔ (((s.meter m).state = .awaiting ∨ (s.meter m).state = .live ∨ (s.meter m).state = .doubtful) ∧
      (s.meter m).binding.source = 2 ∧
      ∀ x : ChanId, (s.meter m).binding.channel.toNat = x.val → (s.channel x).mode ≠ .count)) →
    (s.mode ≠ .setup → exec (.leaveSetup ft) s = .next (replied s f .wrongState (itemOnly 0))) ∧
    (s.mode = .setup → 4294967295 < s.time.grid.deadline (s.time.grid.firstNight s.time.partTime) →
      exec (.leaveSetup ft) s = .next (replied s f .invalid (itemOnly 1))) ∧
    (s.mode = .setup → s.time.grid.deadline (s.time.grid.firstNight s.time.partTime) ≤ 4294967295 →
      (∀ z, unfit z → (∀ y, y < z → ¬unfit y) → exec (.leaveSetup ft) s =
        .next (replied s f .invalid [2, 1, BitVec.ofNat 8 z.val, 0, 0])) ∧
      (∀ m, (∀ z, ¬unfit z) → loose m → (∀ k, k < m → ¬loose k) → exec (.leaveSetup ft) s =
        .next (replied s f .invalid [3, 2, BitVec.ofNat 8 m.val, 0, 0])) ∧
      ((∀ z, ¬unfit z) → (∀ m, ¬loose m) → exec (.leaveSetup ft) s = .next (replied
        { s with
          ctl := { s.ctl with mode := .starting }
          checker := { s.checker.abandon with pass := some { origin := .startUp, next := 0, mismatches := 0 } } }
        f .accepted [])))

/-- RESTART and RESTART_CLEAR (R162, R164, R165, R174, R52, R17): taken in every mode; STARTING ends with the taking, its pass
ABANDONED (R155, R162, log 40); once no item and no zone is in hand, it acts. Before that, RESTART_CLEAR has no effect (log
2). What it clears and what it keeps, and the latches after it; a boundary event in delivery stays so, with the pending trim
at 0 (log 30). -/
def Obligations.RestartClearsWorkInFlight : Prop :=
  (∀ (ft : Byte) (s : State) (f : Frame), encodeRequest (.restart ft) = some f → Free s f →
    (s.mode ≠ .starting →
      exec (.restart ft) s = .next (working { s with ctl := { s.ctl with restarting := true } } f)) ∧
    (s.mode = .starting → exec (.restart ft) s = .next (working
      { s with checker := s.checker.abandon, ctl := { s.ctl with mode := .setup, restarting := true } } f))) ∧
  (∀ s : State, (s.ctl.restarting = false ∨ s.intake.hand ≠ .idle ∨ s.analyser.analysing ≠ none) →
    exec .restartClear s = .next s) ∧
  (∀ (s : State) (h : InHand), s.ctl.restarting = true → s.intake.hand = .idle → s.analyser.analysing = none →
    s.link.hand = some h → s.link.resetLow = false →
    ∃ t, exec .restartClear s = .next (replied t h.frame .ok []) ∧
      t = { s with
        time := { s.time with pendingTrim := 0 }
        zones := t.zones
        meters := t.meters
        channels := t.channels
        stage := { bindings := [], commitPending := false, due := false }
        intake := { s.intake with touched := [], releaseWaiting := none }
        analyser := { analysing := none, raced := [] }
        findings := []
        checker := s.checker.abandon
        ctl := { mode := .setup, leaving := none, restarting := false }
        attn := { s.attn with latched := 0x20 ||| (if s.faultedCount = 0 then 0 else 0x04) } } ∧
      (∀ z, t.zone z = { s.zone z with run := 0, record := none, kept :=
        if (s.zone z).kept = .watch then .clear else (s.zone z).kept }) ∧
      (∀ m, ((s.meter m).state = .live ∨ (s.meter m).state = .doubtful →
          t.meter m = { s.meter m with state := .awaiting, lastPoint := none, doubt := 0 }) ∧
        ((s.meter m).state ≠ .live → (s.meter m).state ≠ .doubtful → t.meter m = s.meter m)) ∧
      (∀ x, ((s.channel x).mode ≠ .count → t.channel x = { s.channel x with list := [], tally := 0, phase := 0 }) ∧
        ((s.channel x).mode = .count → s.gateAsserted x = true → t.channel x =
          { s.channel x with list := [], tally := 0, phase := 0, state := .gated,
                             gateRecord := some (s.time.partTime, 0) }) ∧
        ((s.channel x).mode = .count → s.gateAsserted x = false → t.channel x =
          { s.channel x with list := [], tally := 0, phase := 0, state := .counting, gateRecord := none })))

/-- POWER_ON, PIN_RESET and RESET_PIN_LOW (R166, R170, R175, R188): every block in its reset state, with the line rate of the
straps; the pins' levels are inputs and stay, the RESET pin's too at POWER_ON, and PIN_RESET leaves it high (log 12), low before
or not (log 33). While the pin is low, ATTN is not asserted, a reply being sent stops, and bytes and requests are ignored;
that the queue and a request that waits or is worked on are kept meanwhile is the model's choice (log 23). -/
def Obligations.ResetsPutEveryBlockInItsResetState : Prop :=
  (∀ (r1 r0 low : Bool) (s : State) (c : Instr) (rate : LineRate),
    ((c = .powerOn r1 r0 ∧ low = s.link.resetLow) ∨ (c = .pinReset r1 r0 ∧ low = false)) →
    rate = (if r1 then (if r0 then .r460800 else .r115200) else (if r0 then .r38400 else .r9600)) →
    ∃ t, exec c s = .next t ∧
      t = { State.reset with channels := t.channels, link := { State.reset.link with rate := rate, resetLow := low },
                             pending := s.pending } ∧
      (∀ x, t.channel x = { State.reset.channel x with pinHigh := (s.channel x).pinHigh })) ∧
  (∀ s : State, ∃ t, exec .resetPinLow s = .next t ∧ t = { s with link := t.link } ∧ t.attnLine = false ∧
    t.link.resetLow = true ∧ t.link.queue = s.link.queue ∧
    (∀ f r, s.link.hand = some { frame := f, phase := .sending r } → t.link.hand = none) ∧
    (∀ h, s.link.hand = some h → (h.phase = .waiting ∨ h.phase = .working) → t.link.hand = some h)) ∧
  (∀ (e : RxEvent) (s : State), s.link.resetLow = true → exec (.byteReceived e) s = .next s) ∧
  (∀ (c : Instr) (f : Frame) (s : State), s.link.resetLow = true → encodeRequest c = some f → exec c s = .next s)

/-! ## Link -/

/-- The receiver (R177, R178): what a byte, a framing error or a long gap does, hunting or in a frame; a complete frame whose
CRC holds joins the queue or, with two held, is discarded with the dropped mark. -/
def Obligations.ReceiverFollowsTable : Prop :=
  ∀ s : State, s.link.resetLow = false →
    (∀ e, s.link.rx = .hunting → e ≠ .byte 0xC3 → exec (.byteReceived e) s = .next s) ∧
    (s.link.rx = .hunting → exec (.byteReceived (.byte 0xC3)) s =
      .next { s with link := { s.link with rx := .inFrame [] } }) ∧
    (∀ b : Byte, s.link.rx = .inFrame [] → 2 ≤ b.toNat → b.toNat ≤ 240 → exec (.byteReceived (.byte b)) s =
      .next { s with link := { s.link with rx := .inFrame [b] } }) ∧
    (∀ b : Byte, s.link.rx = .inFrame [] → (b.toNat < 2 ∨ 240 < b.toNat) → exec (.byteReceived (.byte b)) s =
      .next { s with link := { s.link with rx := .hunting } }) ∧
    (∀ bytes, s.link.rx = .inFrame bytes → exec (.byteReceived .framingError) s =
      .next { s with link := { s.link with rx := .hunting } }) ∧
    (∀ (len b : Byte) (rest : List Byte), s.link.rx = .inFrame (len :: rest) → rest.length + 2 ≠ len.toNat + 3 →
      exec (.byteReceived (.byte b)) s =
        .next { s with link := { s.link with rx := .inFrame (len :: rest ++ [b]) } }) ∧
    (∀ (len tag kind c1 c0 : Byte) (body : List Byte), s.link.rx = .inFrame (len :: tag :: kind :: body ++ [c1]) →
      body.length + 2 = len.toNat →
      ([c1, c0] ≠ be16 (crc16 (len :: tag :: kind :: body)) → exec (.byteReceived (.byte c0)) s =
        .next { s with link := { s.link with rx := .hunting } }) ∧
      ([c1, c0] = be16 (crc16 (len :: tag :: kind :: body)) → s.link.hand ≠ none →
        (s.link.queue.length < 2 → exec (.byteReceived (.byte c0)) s = .next { s with link :=
          { s.link with rx := .hunting, queue := s.link.queue ++ [{ tag := tag, kind := kind, body := body }] } }) ∧
        (2 ≤ s.link.queue.length → exec (.byteReceived (.byte c0)) s =
          .next { s with link := { s.link with rx := .hunting, dropped := true } })) ∧
      ([c1, c0] = be16 (crc16 (len :: tag :: kind :: body)) → s.link.hand = none → s.link.queue = [] →
        decodeRequest { tag := tag, kind := kind, body := body } ≠ none → exec (.byteReceived (.byte c0)) s =
          .next { s with link := { s.link with rx := .hunting,
                                               hand := some ⟨⟨tag, kind, body⟩, .waiting⟩ } })) ∧
    exec .frameGapTimeout s = .next { s with link := { s.link with rx := .hunting } }

/-- The order of requests (R178, R179, R182): when a reply has left, the oldest frame of the queue comes into hand, and one
whose body length does not match its kind is answered BAD-LENGTH, as it is when it arrives at a free link (log 10); a kind that
is not in the catalogue is answered UNKNOWN-KIND; and a request that arrives while another is in hand joins the queue, or with
two held is discarded with the dropped mark (a request row stands for its frame's arrival too, log 9). With no reply being sent
REPLY_SENT has no effect (log 2). -/
def Obligations.RequestsAreAnsweredInOrder : Prop :=
  ∀ s : State, s.link.resetLow = false →
    (∀ g r, s.link.hand = some { frame := g, phase := .sending r } →
      (s.link.queue = [] → exec .replySent s = .next { s with link := { s.link with hand := none } }) ∧
      (∀ f rest, s.link.queue = f :: rest → decodeRequest f ≠ none → exec .replySent s =
        .next { s with link := { s.link with queue := rest, hand := some { frame := f, phase := .waiting } } }) ∧
      (∀ f rest, s.link.queue = f :: rest → decodeRequest f = none → exec .replySent s =
        .next (replied { s with link := { s.link with queue := rest } } f .badLength (itemOnly 0)))) ∧
    ((∀ g r, s.link.hand ≠ some { frame := g, phase := .sending r }) → exec .replySent s = .next s) ∧
    (∀ (len tag kind c1 c0 : Byte) (body : List Byte), s.link.rx = .inFrame (len :: tag :: kind :: body ++ [c1]) →
      body.length + 2 = len.toNat → [c1, c0] = be16 (crc16 (len :: tag :: kind :: body)) → s.link.hand = none →
      s.link.queue = [] → decodeRequest ⟨tag, kind, body⟩ = none → exec (.byteReceived (.byte c0)) s =
        .next (replied { s with link := { s.link with rx := .hunting } } ⟨tag, kind, body⟩ .badLength (itemOnly 0))) ∧
    (∀ (ft kind : Byte) (body : List Byte), catalogue.contains kind = false → Free s ⟨ft, kind, body⟩ →
      exec (.unknownKind ft kind body) s = .next (replied s ⟨ft, kind, body⟩ .unknownKind (itemOnly 0))) ∧
    (∀ (c : Instr) (f : Frame) (h : InHand), encodeRequest c = some f → s.link.hand = some h →
      h ≠ { frame := f, phase := .waiting } →
      (s.link.queue.length < 2 → exec c s = .next { s with link := { s.link with queue := s.link.queue ++ [f] } }) ∧
      (2 ≤ s.link.queue.length → exec c s = .next { s with link := { s.link with dropped := true } }))

/-! ## Decoding and invariants -/

/-- Decoding and encoding request frames agree (R179, R183, R185): a well-formed request is read back from its frame with
every operand, and a frame whose length matches its kind is the frame of the request it is read as. An option byte outside its
list stands in the row of the first option (log 11). -/
def Obligations.DecodeOfEncodeIsTheRequest : Prop :=
  (∀ (i : Instr) (f : Frame), i.wellFormed = true → encodeRequest i = some f → decodeRequest f = some i) ∧
  (∀ (i : Instr) (f : Frame), f.body.length ≤ 238 → decodeRequest f = some i →
    encodeRequest i = some f ∧ i.wellFormed = true)

/-- Every step keeps the bounds of part time, pending trim, trim step and standstill (R1, R8, R10, R12), of the stage, with one
binding per slot (R24), the capture lists (R45), the doubt counts (R67), each zone's history, B, S, settling count, run and
episodes (7.1, R119, R121, R126, R128), each bin's pressure count and sum (5.1, R83), the findings queue (R144) and the input
queue (R178). For the settling count, stored N_settle settings of at most 30 (2.3, R21) are kept too. -/
def Obligations.EveryStepKeepsBounds : Prop :=
  ∀ s t : State, Bounds s → step s = .next t → Bounds t

/-- Every step keeps open night records and capture records inside RUN (R52, R158), and every channel's law (R36); the night
records of RUN, one for each zone in service until the last night on the grid (R91, R158); the meter table's law (R19); the
order of the capture lists in time (R45); and a zone leaves CONFIRMED only by an entry fault, CLEAR-ZONE, SET-ZONE's
unconfigure option, power-on or pin reset (R135). -/
def Obligations.EveryStepKeepsModeAndChannelLaws : Prop :=
  (∀ s t : State, OnlyInRun s → step s = .next t → OnlyInRun t) ∧
  (∀ s t : State, ChannelsLawful s → step s = .next t → ChannelsLawful t) ∧
  (∀ s t : State, RecordLaw s → step s = .next t → RecordLaw t) ∧
  (∀ s t : State, Bounds s → MeterTableLaw s → step s = .next t → MeterTableLaw t) ∧
  (∀ s t : State, Bounds s → OnlyInRun s → ChannelsLawful s → CaptureLaw s → step s = .next t → CaptureLaw t) ∧
  (∀ (s t : State) (z : ZoneId), (s.zone z).condition = .confirmed → step s = .next t →
    (t.zone z).condition = .confirmed ∨ (t.zone z).condition = .fault ∨
      ∃ c rest, s.pending = c :: rest ∧ leavesConfirmed c = true)

/-- The state after power-on (R16, R17, R20, R24, R52, R79, R86, R110, R144, R157, R158, R167), and the invariants at it. That
no boundary event is in delivery, the divider stands at 0, no commit is due, no zone set is raced, and no leaving phase and no
RESTART are under way is the model's (log 14). The line rate and the pins' levels there are the model's choice (logs 12 and
13) and are not stated. -/
def Obligations.ResetStateIsAsStated : Prop :=
  State.reset.time = { partTime := 0, pendingTrim := 0, standstill := 0, divider := 0, boundary := none, grid :=
    { interval := 15, windowStart := 7200, windowLength := 120, closeDelay := 480, spanLimit := 7200, trimStep := 2 } } ∧
  State.reset.mode = .setup ∧ State.reset.ctl.leaving = none ∧ State.reset.ctl.restarting = false ∧
  State.reset.attn = { latched := 0x20, mask := 0x7F } ∧ State.reset.findings = [] ∧
  State.reset.stage = { bindings := [], commitPending := false, due := false } ∧
  State.reset.intake.hand = .idle ∧ State.reset.intake.pointer = 16 ∧ State.reset.analyser = { analysing := none, raced := [] } ∧
  State.reset.checker = { scrub := 0, pass := none, lastPass := none } ∧ State.reset.table = Vector.replicate 17 16384 ∧
  State.reset.link.rx = .hunting ∧ State.reset.link.queue = [] ∧ State.reset.link.hand = none ∧
  State.reset.link.dropped = false ∧ State.reset.closingSet = [] ∧ State.reset.faultedCount = 0 ∧
  (∀ m, (State.reset.meter m).state = .unbound ∧ (State.reset.meter m).lastPoint = none ∧
    State.reset.entryMatches (.meter m) = true) ∧
  (∀ z, (State.reset.zone z).condition = .unconfigured ∧ (State.reset.zone z).record = none ∧
    (State.reset.zone z).history = [] ∧ (State.reset.zone z).lastClose = none ∧
    (State.reset.zone z).baseline = 0 ∧ (State.reset.zone z).spread = 0 ∧ (State.reset.zone z).settling = 0 ∧
    State.reset.entryMatches (.zone z) = true) ∧
  (∀ x, (State.reset.channel x).mode = .off ∧ (State.reset.channel x).state = .off ∧
    (State.reset.channel x).tally = 0 ∧ (State.reset.channel x).list = []) ∧
  Bounds State.reset ∧ OnlyInRun State.reset ∧ ChannelsLawful State.reset ∧ RecordLaw State.reset ∧
  MeterTableLaw State.reset ∧ CaptureLaw State.reset
end

