-- ==== Sys2Proof/Laws/State.lean ====
section
/-! SUPPORT. One lemma for each field and each update of the state, so that no proof unfolds a record update. -/

namespace Sys2Proof.Machine.State

open Sys2Proof Sys2Proof.Machine

variable (s : State)

/-! ### putZone -/

@[simp] theorem time_putZone (z : ZoneId) (x : Zone) : (s.putZone z x).time = s.time := rfl
@[simp] theorem meters_putZone (z : ZoneId) (x : Zone) : (s.putZone z x).meters = s.meters := rfl
@[simp] theorem stage_putZone (z : ZoneId) (x : Zone) : (s.putZone z x).stage = s.stage := rfl
@[simp] theorem channels_putZone (z : ZoneId) (x : Zone) : (s.putZone z x).channels = s.channels := rfl
@[simp] theorem intake_putZone (z : ZoneId) (x : Zone) : (s.putZone z x).intake = s.intake := rfl
@[simp] theorem table_putZone (z : ZoneId) (x : Zone) : (s.putZone z x).table = s.table := rfl
@[simp] theorem analyser_putZone (z : ZoneId) (x : Zone) : (s.putZone z x).analyser = s.analyser := rfl
@[simp] theorem findings_putZone (z : ZoneId) (x : Zone) : (s.putZone z x).findings = s.findings := rfl
@[simp] theorem checker_putZone (z : ZoneId) (x : Zone) : (s.putZone z x).checker = s.checker := rfl
@[simp] theorem ctl_putZone (z : ZoneId) (x : Zone) : (s.putZone z x).ctl = s.ctl := rfl
@[simp] theorem attn_putZone (z : ZoneId) (x : Zone) : (s.putZone z x).attn = s.attn := rfl
@[simp] theorem link_putZone (z : ZoneId) (x : Zone) : (s.putZone z x).link = s.link := rfl
@[simp] theorem pending_putZone (z : ZoneId) (x : Zone) : (s.putZone z x).pending = s.pending := rfl
@[simp] theorem meter_putZone (z : ZoneId) (x : Zone) (y : SlotId) : (s.putZone z x).meter y = s.meter y := rfl
@[simp] theorem channel_putZone (z : ZoneId) (x : Zone) (y : ChanId) : (s.putZone z x).channel y = s.channel y := rfl
@[simp] theorem now_putZone (z : ZoneId) (x : Zone)  : (s.putZone z x).now  = s.now  := rfl
@[simp] theorem grid_putZone (z : ZoneId) (x : Zone)  : (s.putZone z x).grid  = s.grid  := rfl
@[simp] theorem mode_putZone (z : ZoneId) (x : Zone)  : (s.putZone z x).mode  = s.mode  := rfl

/-! ### modZone -/

@[simp] theorem time_modZone (z : ZoneId) (f : Zone → Zone) : (s.modZone z f).time = s.time := rfl
@[simp] theorem meters_modZone (z : ZoneId) (f : Zone → Zone) : (s.modZone z f).meters = s.meters := rfl
@[simp] theorem stage_modZone (z : ZoneId) (f : Zone → Zone) : (s.modZone z f).stage = s.stage := rfl
@[simp] theorem channels_modZone (z : ZoneId) (f : Zone → Zone) : (s.modZone z f).channels = s.channels := rfl
@[simp] theorem intake_modZone (z : ZoneId) (f : Zone → Zone) : (s.modZone z f).intake = s.intake := rfl
@[simp] theorem table_modZone (z : ZoneId) (f : Zone → Zone) : (s.modZone z f).table = s.table := rfl
@[simp] theorem analyser_modZone (z : ZoneId) (f : Zone → Zone) : (s.modZone z f).analyser = s.analyser := rfl
@[simp] theorem findings_modZone (z : ZoneId) (f : Zone → Zone) : (s.modZone z f).findings = s.findings := rfl
@[simp] theorem checker_modZone (z : ZoneId) (f : Zone → Zone) : (s.modZone z f).checker = s.checker := rfl
@[simp] theorem ctl_modZone (z : ZoneId) (f : Zone → Zone) : (s.modZone z f).ctl = s.ctl := rfl
@[simp] theorem attn_modZone (z : ZoneId) (f : Zone → Zone) : (s.modZone z f).attn = s.attn := rfl
@[simp] theorem link_modZone (z : ZoneId) (f : Zone → Zone) : (s.modZone z f).link = s.link := rfl
@[simp] theorem pending_modZone (z : ZoneId) (f : Zone → Zone) : (s.modZone z f).pending = s.pending := rfl
@[simp] theorem meter_modZone (z : ZoneId) (f : Zone → Zone) (y : SlotId) : (s.modZone z f).meter y = s.meter y := rfl
@[simp] theorem channel_modZone (z : ZoneId) (f : Zone → Zone) (y : ChanId) : (s.modZone z f).channel y = s.channel y := rfl
@[simp] theorem now_modZone (z : ZoneId) (f : Zone → Zone)  : (s.modZone z f).now  = s.now  := rfl
@[simp] theorem grid_modZone (z : ZoneId) (f : Zone → Zone)  : (s.modZone z f).grid  = s.grid  := rfl
@[simp] theorem mode_modZone (z : ZoneId) (f : Zone → Zone)  : (s.modZone z f).mode  = s.mode  := rfl

/-! ### mapZones -/

@[simp] theorem time_mapZones (f : ZoneId → Zone → Zone) : (s.mapZones f).time = s.time := by simp only [State.mapZones]
@[simp] theorem meters_mapZones (f : ZoneId → Zone → Zone) : (s.mapZones f).meters = s.meters := by simp only [State.mapZones]
@[simp] theorem stage_mapZones (f : ZoneId → Zone → Zone) : (s.mapZones f).stage = s.stage := by simp only [State.mapZones]
@[simp] theorem channels_mapZones (f : ZoneId → Zone → Zone) : (s.mapZones f).channels = s.channels := by simp only [State.mapZones]
@[simp] theorem intake_mapZones (f : ZoneId → Zone → Zone) : (s.mapZones f).intake = s.intake := by simp only [State.mapZones]
@[simp] theorem table_mapZones (f : ZoneId → Zone → Zone) : (s.mapZones f).table = s.table := by simp only [State.mapZones]
@[simp] theorem analyser_mapZones (f : ZoneId → Zone → Zone) : (s.mapZones f).analyser = s.analyser := by simp only [State.mapZones]
@[simp] theorem findings_mapZones (f : ZoneId → Zone → Zone) : (s.mapZones f).findings = s.findings := by simp only [State.mapZones]
@[simp] theorem checker_mapZones (f : ZoneId → Zone → Zone) : (s.mapZones f).checker = s.checker := by simp only [State.mapZones]
@[simp] theorem ctl_mapZones (f : ZoneId → Zone → Zone) : (s.mapZones f).ctl = s.ctl := by simp only [State.mapZones]
@[simp] theorem attn_mapZones (f : ZoneId → Zone → Zone) : (s.mapZones f).attn = s.attn := by simp only [State.mapZones]
@[simp] theorem link_mapZones (f : ZoneId → Zone → Zone) : (s.mapZones f).link = s.link := by simp only [State.mapZones]
@[simp] theorem pending_mapZones (f : ZoneId → Zone → Zone) : (s.mapZones f).pending = s.pending := by simp only [State.mapZones]
@[simp] theorem meter_mapZones (f : ZoneId → Zone → Zone) (y : SlotId) : (s.mapZones f).meter y = s.meter y := by simp only [State.meter, State.mapZones]
@[simp] theorem channel_mapZones (f : ZoneId → Zone → Zone) (y : ChanId) : (s.mapZones f).channel y = s.channel y := by simp only [State.channel, State.mapZones]
@[simp] theorem now_mapZones (f : ZoneId → Zone → Zone)  : (s.mapZones f).now  = s.now  := by simp only [State.now, State.mapZones]
@[simp] theorem grid_mapZones (f : ZoneId → Zone → Zone)  : (s.mapZones f).grid  = s.grid  := by simp only [State.grid, State.mapZones]
@[simp] theorem mode_mapZones (f : ZoneId → Zone → Zone)  : (s.mapZones f).mode  = s.mode  := by simp only [State.mode, State.mapZones]

/-! ### putMeter -/

@[simp] theorem time_putMeter (m : SlotId) (x : MeterSlot) : (s.putMeter m x).time = s.time := rfl
@[simp] theorem zones_putMeter (m : SlotId) (x : MeterSlot) : (s.putMeter m x).zones = s.zones := rfl
@[simp] theorem stage_putMeter (m : SlotId) (x : MeterSlot) : (s.putMeter m x).stage = s.stage := rfl
@[simp] theorem channels_putMeter (m : SlotId) (x : MeterSlot) : (s.putMeter m x).channels = s.channels := rfl
@[simp] theorem intake_putMeter (m : SlotId) (x : MeterSlot) : (s.putMeter m x).intake = s.intake := rfl
@[simp] theorem table_putMeter (m : SlotId) (x : MeterSlot) : (s.putMeter m x).table = s.table := rfl
@[simp] theorem analyser_putMeter (m : SlotId) (x : MeterSlot) : (s.putMeter m x).analyser = s.analyser := rfl
@[simp] theorem findings_putMeter (m : SlotId) (x : MeterSlot) : (s.putMeter m x).findings = s.findings := rfl
@[simp] theorem checker_putMeter (m : SlotId) (x : MeterSlot) : (s.putMeter m x).checker = s.checker := rfl
@[simp] theorem ctl_putMeter (m : SlotId) (x : MeterSlot) : (s.putMeter m x).ctl = s.ctl := rfl
@[simp] theorem attn_putMeter (m : SlotId) (x : MeterSlot) : (s.putMeter m x).attn = s.attn := rfl
@[simp] theorem link_putMeter (m : SlotId) (x : MeterSlot) : (s.putMeter m x).link = s.link := rfl
@[simp] theorem pending_putMeter (m : SlotId) (x : MeterSlot) : (s.putMeter m x).pending = s.pending := rfl
@[simp] theorem zone_putMeter (m : SlotId) (x : MeterSlot) (y : ZoneId) : (s.putMeter m x).zone y = s.zone y := rfl
@[simp] theorem channel_putMeter (m : SlotId) (x : MeterSlot) (y : ChanId) : (s.putMeter m x).channel y = s.channel y := rfl
@[simp] theorem now_putMeter (m : SlotId) (x : MeterSlot)  : (s.putMeter m x).now  = s.now  := rfl
@[simp] theorem grid_putMeter (m : SlotId) (x : MeterSlot)  : (s.putMeter m x).grid  = s.grid  := rfl
@[simp] theorem mode_putMeter (m : SlotId) (x : MeterSlot)  : (s.putMeter m x).mode  = s.mode  := rfl

/-! ### modMeter -/

@[simp] theorem time_modMeter (m : SlotId) (f : MeterSlot → MeterSlot) : (s.modMeter m f).time = s.time := rfl
@[simp] theorem zones_modMeter (m : SlotId) (f : MeterSlot → MeterSlot) : (s.modMeter m f).zones = s.zones := rfl
@[simp] theorem stage_modMeter (m : SlotId) (f : MeterSlot → MeterSlot) : (s.modMeter m f).stage = s.stage := rfl
@[simp] theorem channels_modMeter (m : SlotId) (f : MeterSlot → MeterSlot) : (s.modMeter m f).channels = s.channels := rfl
@[simp] theorem intake_modMeter (m : SlotId) (f : MeterSlot → MeterSlot) : (s.modMeter m f).intake = s.intake := rfl
@[simp] theorem table_modMeter (m : SlotId) (f : MeterSlot → MeterSlot) : (s.modMeter m f).table = s.table := rfl
@[simp] theorem analyser_modMeter (m : SlotId) (f : MeterSlot → MeterSlot) : (s.modMeter m f).analyser = s.analyser := rfl
@[simp] theorem findings_modMeter (m : SlotId) (f : MeterSlot → MeterSlot) : (s.modMeter m f).findings = s.findings := rfl
@[simp] theorem checker_modMeter (m : SlotId) (f : MeterSlot → MeterSlot) : (s.modMeter m f).checker = s.checker := rfl
@[simp] theorem ctl_modMeter (m : SlotId) (f : MeterSlot → MeterSlot) : (s.modMeter m f).ctl = s.ctl := rfl
@[simp] theorem attn_modMeter (m : SlotId) (f : MeterSlot → MeterSlot) : (s.modMeter m f).attn = s.attn := rfl
@[simp] theorem link_modMeter (m : SlotId) (f : MeterSlot → MeterSlot) : (s.modMeter m f).link = s.link := rfl
@[simp] theorem pending_modMeter (m : SlotId) (f : MeterSlot → MeterSlot) : (s.modMeter m f).pending = s.pending := rfl
@[simp] theorem zone_modMeter (m : SlotId) (f : MeterSlot → MeterSlot) (y : ZoneId) : (s.modMeter m f).zone y = s.zone y := rfl
@[simp] theorem channel_modMeter (m : SlotId) (f : MeterSlot → MeterSlot) (y : ChanId) : (s.modMeter m f).channel y = s.channel y := rfl
@[simp] theorem now_modMeter (m : SlotId) (f : MeterSlot → MeterSlot)  : (s.modMeter m f).now  = s.now  := rfl
@[simp] theorem grid_modMeter (m : SlotId) (f : MeterSlot → MeterSlot)  : (s.modMeter m f).grid  = s.grid  := rfl
@[simp] theorem mode_modMeter (m : SlotId) (f : MeterSlot → MeterSlot)  : (s.modMeter m f).mode  = s.mode  := rfl

/-! ### mapMeters -/

@[simp] theorem time_mapMeters (f : SlotId → MeterSlot → MeterSlot) : (s.mapMeters f).time = s.time := by simp only [State.mapMeters]
@[simp] theorem zones_mapMeters (f : SlotId → MeterSlot → MeterSlot) : (s.mapMeters f).zones = s.zones := by simp only [State.mapMeters]
@[simp] theorem stage_mapMeters (f : SlotId → MeterSlot → MeterSlot) : (s.mapMeters f).stage = s.stage := by simp only [State.mapMeters]
@[simp] theorem channels_mapMeters (f : SlotId → MeterSlot → MeterSlot) : (s.mapMeters f).channels = s.channels := by simp only [State.mapMeters]
@[simp] theorem intake_mapMeters (f : SlotId → MeterSlot → MeterSlot) : (s.mapMeters f).intake = s.intake := by simp only [State.mapMeters]
@[simp] theorem table_mapMeters (f : SlotId → MeterSlot → MeterSlot) : (s.mapMeters f).table = s.table := by simp only [State.mapMeters]
@[simp] theorem analyser_mapMeters (f : SlotId → MeterSlot → MeterSlot) : (s.mapMeters f).analyser = s.analyser := by simp only [State.mapMeters]
@[simp] theorem findings_mapMeters (f : SlotId → MeterSlot → MeterSlot) : (s.mapMeters f).findings = s.findings := by simp only [State.mapMeters]
@[simp] theorem checker_mapMeters (f : SlotId → MeterSlot → MeterSlot) : (s.mapMeters f).checker = s.checker := by simp only [State.mapMeters]
@[simp] theorem ctl_mapMeters (f : SlotId → MeterSlot → MeterSlot) : (s.mapMeters f).ctl = s.ctl := by simp only [State.mapMeters]
@[simp] theorem attn_mapMeters (f : SlotId → MeterSlot → MeterSlot) : (s.mapMeters f).attn = s.attn := by simp only [State.mapMeters]
@[simp] theorem link_mapMeters (f : SlotId → MeterSlot → MeterSlot) : (s.mapMeters f).link = s.link := by simp only [State.mapMeters]
@[simp] theorem pending_mapMeters (f : SlotId → MeterSlot → MeterSlot) : (s.mapMeters f).pending = s.pending := by simp only [State.mapMeters]
@[simp] theorem zone_mapMeters (f : SlotId → MeterSlot → MeterSlot) (y : ZoneId) : (s.mapMeters f).zone y = s.zone y := by simp only [State.zone, State.mapMeters]
@[simp] theorem channel_mapMeters (f : SlotId → MeterSlot → MeterSlot) (y : ChanId) : (s.mapMeters f).channel y = s.channel y := by simp only [State.channel, State.mapMeters]
@[simp] theorem now_mapMeters (f : SlotId → MeterSlot → MeterSlot)  : (s.mapMeters f).now  = s.now  := by simp only [State.now, State.mapMeters]
@[simp] theorem grid_mapMeters (f : SlotId → MeterSlot → MeterSlot)  : (s.mapMeters f).grid  = s.grid  := by simp only [State.grid, State.mapMeters]
@[simp] theorem mode_mapMeters (f : SlotId → MeterSlot → MeterSlot)  : (s.mapMeters f).mode  = s.mode  := by simp only [State.mode, State.mapMeters]

/-! ### putChannel -/

@[simp] theorem time_putChannel (c : ChanId) (x : Channel) : (s.putChannel c x).time = s.time := rfl
@[simp] theorem zones_putChannel (c : ChanId) (x : Channel) : (s.putChannel c x).zones = s.zones := rfl
@[simp] theorem meters_putChannel (c : ChanId) (x : Channel) : (s.putChannel c x).meters = s.meters := rfl
@[simp] theorem stage_putChannel (c : ChanId) (x : Channel) : (s.putChannel c x).stage = s.stage := rfl
@[simp] theorem intake_putChannel (c : ChanId) (x : Channel) : (s.putChannel c x).intake = s.intake := rfl
@[simp] theorem table_putChannel (c : ChanId) (x : Channel) : (s.putChannel c x).table = s.table := rfl
@[simp] theorem analyser_putChannel (c : ChanId) (x : Channel) : (s.putChannel c x).analyser = s.analyser := rfl
@[simp] theorem findings_putChannel (c : ChanId) (x : Channel) : (s.putChannel c x).findings = s.findings := rfl
@[simp] theorem checker_putChannel (c : ChanId) (x : Channel) : (s.putChannel c x).checker = s.checker := rfl
@[simp] theorem ctl_putChannel (c : ChanId) (x : Channel) : (s.putChannel c x).ctl = s.ctl := rfl
@[simp] theorem attn_putChannel (c : ChanId) (x : Channel) : (s.putChannel c x).attn = s.attn := rfl
@[simp] theorem link_putChannel (c : ChanId) (x : Channel) : (s.putChannel c x).link = s.link := rfl
@[simp] theorem pending_putChannel (c : ChanId) (x : Channel) : (s.putChannel c x).pending = s.pending := rfl
@[simp] theorem zone_putChannel (c : ChanId) (x : Channel) (y : ZoneId) : (s.putChannel c x).zone y = s.zone y := rfl
@[simp] theorem meter_putChannel (c : ChanId) (x : Channel) (y : SlotId) : (s.putChannel c x).meter y = s.meter y := rfl
@[simp] theorem now_putChannel (c : ChanId) (x : Channel)  : (s.putChannel c x).now  = s.now  := rfl
@[simp] theorem grid_putChannel (c : ChanId) (x : Channel)  : (s.putChannel c x).grid  = s.grid  := rfl
@[simp] theorem mode_putChannel (c : ChanId) (x : Channel)  : (s.putChannel c x).mode  = s.mode  := rfl

/-! ### modChannel -/

@[simp] theorem time_modChannel (c : ChanId) (f : Channel → Channel) : (s.modChannel c f).time = s.time := rfl
@[simp] theorem zones_modChannel (c : ChanId) (f : Channel → Channel) : (s.modChannel c f).zones = s.zones := rfl
@[simp] theorem meters_modChannel (c : ChanId) (f : Channel → Channel) : (s.modChannel c f).meters = s.meters := rfl
@[simp] theorem stage_modChannel (c : ChanId) (f : Channel → Channel) : (s.modChannel c f).stage = s.stage := rfl
@[simp] theorem intake_modChannel (c : ChanId) (f : Channel → Channel) : (s.modChannel c f).intake = s.intake := rfl
@[simp] theorem table_modChannel (c : ChanId) (f : Channel → Channel) : (s.modChannel c f).table = s.table := rfl
@[simp] theorem analyser_modChannel (c : ChanId) (f : Channel → Channel) : (s.modChannel c f).analyser = s.analyser := rfl
@[simp] theorem findings_modChannel (c : ChanId) (f : Channel → Channel) : (s.modChannel c f).findings = s.findings := rfl
@[simp] theorem checker_modChannel (c : ChanId) (f : Channel → Channel) : (s.modChannel c f).checker = s.checker := rfl
@[simp] theorem ctl_modChannel (c : ChanId) (f : Channel → Channel) : (s.modChannel c f).ctl = s.ctl := rfl
@[simp] theorem attn_modChannel (c : ChanId) (f : Channel → Channel) : (s.modChannel c f).attn = s.attn := rfl
@[simp] theorem link_modChannel (c : ChanId) (f : Channel → Channel) : (s.modChannel c f).link = s.link := rfl
@[simp] theorem pending_modChannel (c : ChanId) (f : Channel → Channel) : (s.modChannel c f).pending = s.pending := rfl
@[simp] theorem zone_modChannel (c : ChanId) (f : Channel → Channel) (y : ZoneId) : (s.modChannel c f).zone y = s.zone y := rfl
@[simp] theorem meter_modChannel (c : ChanId) (f : Channel → Channel) (y : SlotId) : (s.modChannel c f).meter y = s.meter y := rfl
@[simp] theorem now_modChannel (c : ChanId) (f : Channel → Channel)  : (s.modChannel c f).now  = s.now  := rfl
@[simp] theorem grid_modChannel (c : ChanId) (f : Channel → Channel)  : (s.modChannel c f).grid  = s.grid  := rfl
@[simp] theorem mode_modChannel (c : ChanId) (f : Channel → Channel)  : (s.modChannel c f).mode  = s.mode  := rfl

/-! ### mapChannels -/

@[simp] theorem time_mapChannels (f : ChanId → Channel → Channel) : (s.mapChannels f).time = s.time := by simp only [State.mapChannels]
@[simp] theorem zones_mapChannels (f : ChanId → Channel → Channel) : (s.mapChannels f).zones = s.zones := by simp only [State.mapChannels]
@[simp] theorem meters_mapChannels (f : ChanId → Channel → Channel) : (s.mapChannels f).meters = s.meters := by simp only [State.mapChannels]
@[simp] theorem stage_mapChannels (f : ChanId → Channel → Channel) : (s.mapChannels f).stage = s.stage := by simp only [State.mapChannels]
@[simp] theorem intake_mapChannels (f : ChanId → Channel → Channel) : (s.mapChannels f).intake = s.intake := by simp only [State.mapChannels]
@[simp] theorem table_mapChannels (f : ChanId → Channel → Channel) : (s.mapChannels f).table = s.table := by simp only [State.mapChannels]
@[simp] theorem analyser_mapChannels (f : ChanId → Channel → Channel) : (s.mapChannels f).analyser = s.analyser := by simp only [State.mapChannels]
@[simp] theorem findings_mapChannels (f : ChanId → Channel → Channel) : (s.mapChannels f).findings = s.findings := by simp only [State.mapChannels]
@[simp] theorem checker_mapChannels (f : ChanId → Channel → Channel) : (s.mapChannels f).checker = s.checker := by simp only [State.mapChannels]
@[simp] theorem ctl_mapChannels (f : ChanId → Channel → Channel) : (s.mapChannels f).ctl = s.ctl := by simp only [State.mapChannels]
@[simp] theorem attn_mapChannels (f : ChanId → Channel → Channel) : (s.mapChannels f).attn = s.attn := by simp only [State.mapChannels]
@[simp] theorem link_mapChannels (f : ChanId → Channel → Channel) : (s.mapChannels f).link = s.link := by simp only [State.mapChannels]
@[simp] theorem pending_mapChannels (f : ChanId → Channel → Channel) : (s.mapChannels f).pending = s.pending := by simp only [State.mapChannels]
@[simp] theorem zone_mapChannels (f : ChanId → Channel → Channel) (y : ZoneId) : (s.mapChannels f).zone y = s.zone y := by simp only [State.zone, State.mapChannels]
@[simp] theorem meter_mapChannels (f : ChanId → Channel → Channel) (y : SlotId) : (s.mapChannels f).meter y = s.meter y := by simp only [State.meter, State.mapChannels]
@[simp] theorem now_mapChannels (f : ChanId → Channel → Channel)  : (s.mapChannels f).now  = s.now  := by simp only [State.now, State.mapChannels]
@[simp] theorem grid_mapChannels (f : ChanId → Channel → Channel)  : (s.mapChannels f).grid  = s.grid  := by simp only [State.grid, State.mapChannels]
@[simp] theorem mode_mapChannels (f : ChanId → Channel → Channel)  : (s.mapChannels f).mode  = s.mode  := by simp only [State.mode, State.mapChannels]

/-! ### modTime -/

@[simp] theorem time_modTime (f : TimeBase → TimeBase) : (s.modTime f).time = f s.time := rfl
@[simp] theorem zones_modTime (f : TimeBase → TimeBase) : (s.modTime f).zones = s.zones := rfl
@[simp] theorem meters_modTime (f : TimeBase → TimeBase) : (s.modTime f).meters = s.meters := rfl
@[simp] theorem stage_modTime (f : TimeBase → TimeBase) : (s.modTime f).stage = s.stage := rfl
@[simp] theorem channels_modTime (f : TimeBase → TimeBase) : (s.modTime f).channels = s.channels := rfl
@[simp] theorem intake_modTime (f : TimeBase → TimeBase) : (s.modTime f).intake = s.intake := rfl
@[simp] theorem table_modTime (f : TimeBase → TimeBase) : (s.modTime f).table = s.table := rfl
@[simp] theorem analyser_modTime (f : TimeBase → TimeBase) : (s.modTime f).analyser = s.analyser := rfl
@[simp] theorem findings_modTime (f : TimeBase → TimeBase) : (s.modTime f).findings = s.findings := rfl
@[simp] theorem checker_modTime (f : TimeBase → TimeBase) : (s.modTime f).checker = s.checker := rfl
@[simp] theorem ctl_modTime (f : TimeBase → TimeBase) : (s.modTime f).ctl = s.ctl := rfl
@[simp] theorem attn_modTime (f : TimeBase → TimeBase) : (s.modTime f).attn = s.attn := rfl
@[simp] theorem link_modTime (f : TimeBase → TimeBase) : (s.modTime f).link = s.link := rfl
@[simp] theorem pending_modTime (f : TimeBase → TimeBase) : (s.modTime f).pending = s.pending := rfl
@[simp] theorem zone_modTime (f : TimeBase → TimeBase) (y : ZoneId) : (s.modTime f).zone y = s.zone y := rfl
@[simp] theorem meter_modTime (f : TimeBase → TimeBase) (y : SlotId) : (s.modTime f).meter y = s.meter y := rfl
@[simp] theorem channel_modTime (f : TimeBase → TimeBase) (y : ChanId) : (s.modTime f).channel y = s.channel y := rfl
@[simp] theorem mode_modTime (f : TimeBase → TimeBase)  : (s.modTime f).mode  = s.mode  := rfl

/-! ### modStage -/

@[simp] theorem time_modStage (f : Stage → Stage) : (s.modStage f).time = s.time := rfl
@[simp] theorem zones_modStage (f : Stage → Stage) : (s.modStage f).zones = s.zones := rfl
@[simp] theorem meters_modStage (f : Stage → Stage) : (s.modStage f).meters = s.meters := rfl
@[simp] theorem stage_modStage (f : Stage → Stage) : (s.modStage f).stage = f s.stage := rfl
@[simp] theorem channels_modStage (f : Stage → Stage) : (s.modStage f).channels = s.channels := rfl
@[simp] theorem intake_modStage (f : Stage → Stage) : (s.modStage f).intake = s.intake := rfl
@[simp] theorem table_modStage (f : Stage → Stage) : (s.modStage f).table = s.table := rfl
@[simp] theorem analyser_modStage (f : Stage → Stage) : (s.modStage f).analyser = s.analyser := rfl
@[simp] theorem findings_modStage (f : Stage → Stage) : (s.modStage f).findings = s.findings := rfl
@[simp] theorem checker_modStage (f : Stage → Stage) : (s.modStage f).checker = s.checker := rfl
@[simp] theorem ctl_modStage (f : Stage → Stage) : (s.modStage f).ctl = s.ctl := rfl
@[simp] theorem attn_modStage (f : Stage → Stage) : (s.modStage f).attn = s.attn := rfl
@[simp] theorem link_modStage (f : Stage → Stage) : (s.modStage f).link = s.link := rfl
@[simp] theorem pending_modStage (f : Stage → Stage) : (s.modStage f).pending = s.pending := rfl
@[simp] theorem zone_modStage (f : Stage → Stage) (y : ZoneId) : (s.modStage f).zone y = s.zone y := rfl
@[simp] theorem meter_modStage (f : Stage → Stage) (y : SlotId) : (s.modStage f).meter y = s.meter y := rfl
@[simp] theorem channel_modStage (f : Stage → Stage) (y : ChanId) : (s.modStage f).channel y = s.channel y := rfl
@[simp] theorem now_modStage (f : Stage → Stage)  : (s.modStage f).now  = s.now  := rfl
@[simp] theorem grid_modStage (f : Stage → Stage)  : (s.modStage f).grid  = s.grid  := rfl
@[simp] theorem mode_modStage (f : Stage → Stage)  : (s.modStage f).mode  = s.mode  := rfl

/-! ### modIntake -/

@[simp] theorem time_modIntake (f : Intake → Intake) : (s.modIntake f).time = s.time := rfl
@[simp] theorem zones_modIntake (f : Intake → Intake) : (s.modIntake f).zones = s.zones := rfl
@[simp] theorem meters_modIntake (f : Intake → Intake) : (s.modIntake f).meters = s.meters := rfl
@[simp] theorem stage_modIntake (f : Intake → Intake) : (s.modIntake f).stage = s.stage := rfl
@[simp] theorem channels_modIntake (f : Intake → Intake) : (s.modIntake f).channels = s.channels := rfl
@[simp] theorem intake_modIntake (f : Intake → Intake) : (s.modIntake f).intake = f s.intake := rfl
@[simp] theorem table_modIntake (f : Intake → Intake) : (s.modIntake f).table = s.table := rfl
@[simp] theorem analyser_modIntake (f : Intake → Intake) : (s.modIntake f).analyser = s.analyser := rfl
@[simp] theorem findings_modIntake (f : Intake → Intake) : (s.modIntake f).findings = s.findings := rfl
@[simp] theorem checker_modIntake (f : Intake → Intake) : (s.modIntake f).checker = s.checker := rfl
@[simp] theorem ctl_modIntake (f : Intake → Intake) : (s.modIntake f).ctl = s.ctl := rfl
@[simp] theorem attn_modIntake (f : Intake → Intake) : (s.modIntake f).attn = s.attn := rfl
@[simp] theorem link_modIntake (f : Intake → Intake) : (s.modIntake f).link = s.link := rfl
@[simp] theorem pending_modIntake (f : Intake → Intake) : (s.modIntake f).pending = s.pending := rfl
@[simp] theorem zone_modIntake (f : Intake → Intake) (y : ZoneId) : (s.modIntake f).zone y = s.zone y := rfl
@[simp] theorem meter_modIntake (f : Intake → Intake) (y : SlotId) : (s.modIntake f).meter y = s.meter y := rfl
@[simp] theorem channel_modIntake (f : Intake → Intake) (y : ChanId) : (s.modIntake f).channel y = s.channel y := rfl
@[simp] theorem now_modIntake (f : Intake → Intake)  : (s.modIntake f).now  = s.now  := rfl
@[simp] theorem grid_modIntake (f : Intake → Intake)  : (s.modIntake f).grid  = s.grid  := rfl
@[simp] theorem mode_modIntake (f : Intake → Intake)  : (s.modIntake f).mode  = s.mode  := rfl

/-! ### modAnalyser -/

@[simp] theorem time_modAnalyser (f : Analyser → Analyser) : (s.modAnalyser f).time = s.time := rfl
@[simp] theorem zones_modAnalyser (f : Analyser → Analyser) : (s.modAnalyser f).zones = s.zones := rfl
@[simp] theorem meters_modAnalyser (f : Analyser → Analyser) : (s.modAnalyser f).meters = s.meters := rfl
@[simp] theorem stage_modAnalyser (f : Analyser → Analyser) : (s.modAnalyser f).stage = s.stage := rfl
@[simp] theorem channels_modAnalyser (f : Analyser → Analyser) : (s.modAnalyser f).channels = s.channels := rfl
@[simp] theorem intake_modAnalyser (f : Analyser → Analyser) : (s.modAnalyser f).intake = s.intake := rfl
@[simp] theorem table_modAnalyser (f : Analyser → Analyser) : (s.modAnalyser f).table = s.table := rfl
@[simp] theorem analyser_modAnalyser (f : Analyser → Analyser) : (s.modAnalyser f).analyser = f s.analyser := rfl
@[simp] theorem findings_modAnalyser (f : Analyser → Analyser) : (s.modAnalyser f).findings = s.findings := rfl
@[simp] theorem checker_modAnalyser (f : Analyser → Analyser) : (s.modAnalyser f).checker = s.checker := rfl
@[simp] theorem ctl_modAnalyser (f : Analyser → Analyser) : (s.modAnalyser f).ctl = s.ctl := rfl
@[simp] theorem attn_modAnalyser (f : Analyser → Analyser) : (s.modAnalyser f).attn = s.attn := rfl
@[simp] theorem link_modAnalyser (f : Analyser → Analyser) : (s.modAnalyser f).link = s.link := rfl
@[simp] theorem pending_modAnalyser (f : Analyser → Analyser) : (s.modAnalyser f).pending = s.pending := rfl
@[simp] theorem zone_modAnalyser (f : Analyser → Analyser) (y : ZoneId) : (s.modAnalyser f).zone y = s.zone y := rfl
@[simp] theorem meter_modAnalyser (f : Analyser → Analyser) (y : SlotId) : (s.modAnalyser f).meter y = s.meter y := rfl
@[simp] theorem channel_modAnalyser (f : Analyser → Analyser) (y : ChanId) : (s.modAnalyser f).channel y = s.channel y := rfl
@[simp] theorem now_modAnalyser (f : Analyser → Analyser)  : (s.modAnalyser f).now  = s.now  := rfl
@[simp] theorem grid_modAnalyser (f : Analyser → Analyser)  : (s.modAnalyser f).grid  = s.grid  := rfl
@[simp] theorem mode_modAnalyser (f : Analyser → Analyser)  : (s.modAnalyser f).mode  = s.mode  := rfl

/-! ### setFindings -/

@[simp] theorem time_setFindings (q : List Finding) : (s.setFindings q).time = s.time := rfl
@[simp] theorem zones_setFindings (q : List Finding) : (s.setFindings q).zones = s.zones := rfl
@[simp] theorem meters_setFindings (q : List Finding) : (s.setFindings q).meters = s.meters := rfl
@[simp] theorem stage_setFindings (q : List Finding) : (s.setFindings q).stage = s.stage := rfl
@[simp] theorem channels_setFindings (q : List Finding) : (s.setFindings q).channels = s.channels := rfl
@[simp] theorem intake_setFindings (q : List Finding) : (s.setFindings q).intake = s.intake := rfl
@[simp] theorem table_setFindings (q : List Finding) : (s.setFindings q).table = s.table := rfl
@[simp] theorem analyser_setFindings (q : List Finding) : (s.setFindings q).analyser = s.analyser := rfl
@[simp] theorem findings_setFindings (q : List Finding) : (s.setFindings q).findings = q := rfl
@[simp] theorem checker_setFindings (q : List Finding) : (s.setFindings q).checker = s.checker := rfl
@[simp] theorem ctl_setFindings (q : List Finding) : (s.setFindings q).ctl = s.ctl := rfl
@[simp] theorem attn_setFindings (q : List Finding) : (s.setFindings q).attn = s.attn := rfl
@[simp] theorem link_setFindings (q : List Finding) : (s.setFindings q).link = s.link := rfl
@[simp] theorem pending_setFindings (q : List Finding) : (s.setFindings q).pending = s.pending := rfl
@[simp] theorem zone_setFindings (q : List Finding) (y : ZoneId) : (s.setFindings q).zone y = s.zone y := rfl
@[simp] theorem meter_setFindings (q : List Finding) (y : SlotId) : (s.setFindings q).meter y = s.meter y := rfl
@[simp] theorem channel_setFindings (q : List Finding) (y : ChanId) : (s.setFindings q).channel y = s.channel y := rfl
@[simp] theorem now_setFindings (q : List Finding)  : (s.setFindings q).now  = s.now  := rfl
@[simp] theorem grid_setFindings (q : List Finding)  : (s.setFindings q).grid  = s.grid  := rfl
@[simp] theorem mode_setFindings (q : List Finding)  : (s.setFindings q).mode  = s.mode  := rfl

/-! ### modChecker -/

@[simp] theorem time_modChecker (f : Checker → Checker) : (s.modChecker f).time = s.time := rfl
@[simp] theorem zones_modChecker (f : Checker → Checker) : (s.modChecker f).zones = s.zones := rfl
@[simp] theorem meters_modChecker (f : Checker → Checker) : (s.modChecker f).meters = s.meters := rfl
@[simp] theorem stage_modChecker (f : Checker → Checker) : (s.modChecker f).stage = s.stage := rfl
@[simp] theorem channels_modChecker (f : Checker → Checker) : (s.modChecker f).channels = s.channels := rfl
@[simp] theorem intake_modChecker (f : Checker → Checker) : (s.modChecker f).intake = s.intake := rfl
@[simp] theorem table_modChecker (f : Checker → Checker) : (s.modChecker f).table = s.table := rfl
@[simp] theorem analyser_modChecker (f : Checker → Checker) : (s.modChecker f).analyser = s.analyser := rfl
@[simp] theorem findings_modChecker (f : Checker → Checker) : (s.modChecker f).findings = s.findings := rfl
@[simp] theorem checker_modChecker (f : Checker → Checker) : (s.modChecker f).checker = f s.checker := rfl
@[simp] theorem ctl_modChecker (f : Checker → Checker) : (s.modChecker f).ctl = s.ctl := rfl
@[simp] theorem attn_modChecker (f : Checker → Checker) : (s.modChecker f).attn = s.attn := rfl
@[simp] theorem link_modChecker (f : Checker → Checker) : (s.modChecker f).link = s.link := rfl
@[simp] theorem pending_modChecker (f : Checker → Checker) : (s.modChecker f).pending = s.pending := rfl
@[simp] theorem zone_modChecker (f : Checker → Checker) (y : ZoneId) : (s.modChecker f).zone y = s.zone y := rfl
@[simp] theorem meter_modChecker (f : Checker → Checker) (y : SlotId) : (s.modChecker f).meter y = s.meter y := rfl
@[simp] theorem channel_modChecker (f : Checker → Checker) (y : ChanId) : (s.modChecker f).channel y = s.channel y := rfl
@[simp] theorem now_modChecker (f : Checker → Checker)  : (s.modChecker f).now  = s.now  := rfl
@[simp] theorem grid_modChecker (f : Checker → Checker)  : (s.modChecker f).grid  = s.grid  := rfl
@[simp] theorem mode_modChecker (f : Checker → Checker)  : (s.modChecker f).mode  = s.mode  := rfl

/-! ### modCtl -/

@[simp] theorem time_modCtl (f : ModeControl → ModeControl) : (s.modCtl f).time = s.time := rfl
@[simp] theorem zones_modCtl (f : ModeControl → ModeControl) : (s.modCtl f).zones = s.zones := rfl
@[simp] theorem meters_modCtl (f : ModeControl → ModeControl) : (s.modCtl f).meters = s.meters := rfl
@[simp] theorem stage_modCtl (f : ModeControl → ModeControl) : (s.modCtl f).stage = s.stage := rfl
@[simp] theorem channels_modCtl (f : ModeControl → ModeControl) : (s.modCtl f).channels = s.channels := rfl
@[simp] theorem intake_modCtl (f : ModeControl → ModeControl) : (s.modCtl f).intake = s.intake := rfl
@[simp] theorem table_modCtl (f : ModeControl → ModeControl) : (s.modCtl f).table = s.table := rfl
@[simp] theorem analyser_modCtl (f : ModeControl → ModeControl) : (s.modCtl f).analyser = s.analyser := rfl
@[simp] theorem findings_modCtl (f : ModeControl → ModeControl) : (s.modCtl f).findings = s.findings := rfl
@[simp] theorem checker_modCtl (f : ModeControl → ModeControl) : (s.modCtl f).checker = s.checker := rfl
@[simp] theorem ctl_modCtl (f : ModeControl → ModeControl) : (s.modCtl f).ctl = f s.ctl := rfl
@[simp] theorem attn_modCtl (f : ModeControl → ModeControl) : (s.modCtl f).attn = s.attn := rfl
@[simp] theorem link_modCtl (f : ModeControl → ModeControl) : (s.modCtl f).link = s.link := rfl
@[simp] theorem pending_modCtl (f : ModeControl → ModeControl) : (s.modCtl f).pending = s.pending := rfl
@[simp] theorem zone_modCtl (f : ModeControl → ModeControl) (y : ZoneId) : (s.modCtl f).zone y = s.zone y := rfl
@[simp] theorem meter_modCtl (f : ModeControl → ModeControl) (y : SlotId) : (s.modCtl f).meter y = s.meter y := rfl
@[simp] theorem channel_modCtl (f : ModeControl → ModeControl) (y : ChanId) : (s.modCtl f).channel y = s.channel y := rfl
@[simp] theorem now_modCtl (f : ModeControl → ModeControl)  : (s.modCtl f).now  = s.now  := rfl
@[simp] theorem grid_modCtl (f : ModeControl → ModeControl)  : (s.modCtl f).grid  = s.grid  := rfl

/-! ### modAttn -/

@[simp] theorem time_modAttn (f : Attention → Attention) : (s.modAttn f).time = s.time := rfl
@[simp] theorem zones_modAttn (f : Attention → Attention) : (s.modAttn f).zones = s.zones := rfl
@[simp] theorem meters_modAttn (f : Attention → Attention) : (s.modAttn f).meters = s.meters := rfl
@[simp] theorem stage_modAttn (f : Attention → Attention) : (s.modAttn f).stage = s.stage := rfl
@[simp] theorem channels_modAttn (f : Attention → Attention) : (s.modAttn f).channels = s.channels := rfl
@[simp] theorem intake_modAttn (f : Attention → Attention) : (s.modAttn f).intake = s.intake := rfl
@[simp] theorem table_modAttn (f : Attention → Attention) : (s.modAttn f).table = s.table := rfl
@[simp] theorem analyser_modAttn (f : Attention → Attention) : (s.modAttn f).analyser = s.analyser := rfl
@[simp] theorem findings_modAttn (f : Attention → Attention) : (s.modAttn f).findings = s.findings := rfl
@[simp] theorem checker_modAttn (f : Attention → Attention) : (s.modAttn f).checker = s.checker := rfl
@[simp] theorem ctl_modAttn (f : Attention → Attention) : (s.modAttn f).ctl = s.ctl := rfl
@[simp] theorem attn_modAttn (f : Attention → Attention) : (s.modAttn f).attn = f s.attn := rfl
@[simp] theorem link_modAttn (f : Attention → Attention) : (s.modAttn f).link = s.link := rfl
@[simp] theorem pending_modAttn (f : Attention → Attention) : (s.modAttn f).pending = s.pending := rfl
@[simp] theorem zone_modAttn (f : Attention → Attention) (y : ZoneId) : (s.modAttn f).zone y = s.zone y := rfl
@[simp] theorem meter_modAttn (f : Attention → Attention) (y : SlotId) : (s.modAttn f).meter y = s.meter y := rfl
@[simp] theorem channel_modAttn (f : Attention → Attention) (y : ChanId) : (s.modAttn f).channel y = s.channel y := rfl
@[simp] theorem now_modAttn (f : Attention → Attention)  : (s.modAttn f).now  = s.now  := rfl
@[simp] theorem grid_modAttn (f : Attention → Attention)  : (s.modAttn f).grid  = s.grid  := rfl
@[simp] theorem mode_modAttn (f : Attention → Attention)  : (s.modAttn f).mode  = s.mode  := rfl

/-! ### modLink -/

@[simp] theorem time_modLink (f : Link → Link) : (s.modLink f).time = s.time := rfl
@[simp] theorem zones_modLink (f : Link → Link) : (s.modLink f).zones = s.zones := rfl
@[simp] theorem meters_modLink (f : Link → Link) : (s.modLink f).meters = s.meters := rfl
@[simp] theorem stage_modLink (f : Link → Link) : (s.modLink f).stage = s.stage := rfl
@[simp] theorem channels_modLink (f : Link → Link) : (s.modLink f).channels = s.channels := rfl
@[simp] theorem intake_modLink (f : Link → Link) : (s.modLink f).intake = s.intake := rfl
@[simp] theorem table_modLink (f : Link → Link) : (s.modLink f).table = s.table := rfl
@[simp] theorem analyser_modLink (f : Link → Link) : (s.modLink f).analyser = s.analyser := rfl
@[simp] theorem findings_modLink (f : Link → Link) : (s.modLink f).findings = s.findings := rfl
@[simp] theorem checker_modLink (f : Link → Link) : (s.modLink f).checker = s.checker := rfl
@[simp] theorem ctl_modLink (f : Link → Link) : (s.modLink f).ctl = s.ctl := rfl
@[simp] theorem attn_modLink (f : Link → Link) : (s.modLink f).attn = s.attn := rfl
@[simp] theorem link_modLink (f : Link → Link) : (s.modLink f).link = f s.link := rfl
@[simp] theorem pending_modLink (f : Link → Link) : (s.modLink f).pending = s.pending := rfl
@[simp] theorem zone_modLink (f : Link → Link) (y : ZoneId) : (s.modLink f).zone y = s.zone y := rfl
@[simp] theorem meter_modLink (f : Link → Link) (y : SlotId) : (s.modLink f).meter y = s.meter y := rfl
@[simp] theorem channel_modLink (f : Link → Link) (y : ChanId) : (s.modLink f).channel y = s.channel y := rfl
@[simp] theorem now_modLink (f : Link → Link)  : (s.modLink f).now  = s.now  := rfl
@[simp] theorem grid_modLink (f : Link → Link)  : (s.modLink f).grid  = s.grid  := rfl
@[simp] theorem mode_modLink (f : Link → Link)  : (s.modLink f).mode  = s.mode  := rfl

/-! ### setTable -/

@[simp] theorem time_setTable (t : Vector W16 17) : (s.setTable t).time = s.time := rfl
@[simp] theorem zones_setTable (t : Vector W16 17) : (s.setTable t).zones = s.zones := rfl
@[simp] theorem meters_setTable (t : Vector W16 17) : (s.setTable t).meters = s.meters := rfl
@[simp] theorem stage_setTable (t : Vector W16 17) : (s.setTable t).stage = s.stage := rfl
@[simp] theorem channels_setTable (t : Vector W16 17) : (s.setTable t).channels = s.channels := rfl
@[simp] theorem intake_setTable (t : Vector W16 17) : (s.setTable t).intake = s.intake := rfl
@[simp] theorem table_setTable (t : Vector W16 17) : (s.setTable t).table = t := rfl
@[simp] theorem analyser_setTable (t : Vector W16 17) : (s.setTable t).analyser = s.analyser := rfl
@[simp] theorem findings_setTable (t : Vector W16 17) : (s.setTable t).findings = s.findings := rfl
@[simp] theorem checker_setTable (t : Vector W16 17) : (s.setTable t).checker = s.checker := rfl
@[simp] theorem ctl_setTable (t : Vector W16 17) : (s.setTable t).ctl = s.ctl := rfl
@[simp] theorem attn_setTable (t : Vector W16 17) : (s.setTable t).attn = s.attn := rfl
@[simp] theorem link_setTable (t : Vector W16 17) : (s.setTable t).link = s.link := rfl
@[simp] theorem pending_setTable (t : Vector W16 17) : (s.setTable t).pending = s.pending := rfl
@[simp] theorem zone_setTable (t : Vector W16 17) (y : ZoneId) : (s.setTable t).zone y = s.zone y := rfl
@[simp] theorem meter_setTable (t : Vector W16 17) (y : SlotId) : (s.setTable t).meter y = s.meter y := rfl
@[simp] theorem channel_setTable (t : Vector W16 17) (y : ChanId) : (s.setTable t).channel y = s.channel y := rfl
@[simp] theorem now_setTable (t : Vector W16 17)  : (s.setTable t).now  = s.now  := rfl
@[simp] theorem grid_setTable (t : Vector W16 17)  : (s.setTable t).grid  = s.grid  := rfl
@[simp] theorem mode_setTable (t : Vector W16 17)  : (s.setTable t).mode  = s.mode  := rfl

/-! ### Reading zones after writing one or all -/

@[simp] theorem zone_putZone (k y : ZoneId) (x : Zone) :
    (s.putZone k x).zone y = if y = k then x else s.zone y := by
  simp only [State.zone, State.putZone, Vector.getElem_set, Fin.ext_iff, eq_comm (a := k.val)]

@[simp] theorem zone_modZone (k y : ZoneId) (f : Zone → Zone) :
    (s.modZone k f).zone y = if y = k then f (s.zone k) else s.zone y := by
  simp only [State.modZone, zone_putZone]

@[simp] theorem zone_mapZones (f : ZoneId → Zone → Zone) (y : ZoneId) :
    (s.mapZones f).zone y = f y (s.zone y) := by
  simp only [State.zone, State.mapZones, Vector.getElem_ofFn]

/-! ### Reading meters after writing one or all -/

@[simp] theorem meter_putMeter (k y : SlotId) (x : MeterSlot) :
    (s.putMeter k x).meter y = if y = k then x else s.meter y := by
  simp only [State.meter, State.putMeter, Vector.getElem_set, Fin.ext_iff, eq_comm (a := k.val)]

@[simp] theorem meter_modMeter (k y : SlotId) (f : MeterSlot → MeterSlot) :
    (s.modMeter k f).meter y = if y = k then f (s.meter k) else s.meter y := by
  simp only [State.modMeter, meter_putMeter]

@[simp] theorem meter_mapMeters (f : SlotId → MeterSlot → MeterSlot) (y : SlotId) :
    (s.mapMeters f).meter y = f y (s.meter y) := by
  simp only [State.meter, State.mapMeters, Vector.getElem_ofFn]

/-! ### Reading channels after writing one or all -/

@[simp] theorem channel_putChannel (k y : ChanId) (x : Channel) :
    (s.putChannel k x).channel y = if y = k then x else s.channel y := by
  simp only [State.channel, State.putChannel, Vector.getElem_set, Fin.ext_iff, eq_comm (a := k.val)]

@[simp] theorem channel_modChannel (k y : ChanId) (f : Channel → Channel) :
    (s.modChannel k f).channel y = if y = k then f (s.channel k) else s.channel y := by
  simp only [State.modChannel, channel_putChannel]

@[simp] theorem channel_mapChannels (f : ChanId → Channel → Channel) (y : ChanId) :
    (s.mapChannels f).channel y = f y (s.channel y) := by
  simp only [State.channel, State.mapChannels, Vector.getElem_ofFn]

end Sys2Proof.Machine.State

namespace Sys2Proof.Machine.Zone

open Sys2Proof Sys2Proof.Machine

variable (z : Zone)

/-! ### The condition read (R20) -/

/-- A zone whose mark is set, or whose configured byte is not 0, is in the condition kept. -/
theorem condition_eq_kept (h : z.mark = true ∨ z.entry.configured ≠ 0) : z.condition = z.kept := by
  unfold Zone.condition
  exact if_neg fun both => by simp_all

/-- A zone with a clear mark whose configured byte is 0 is UNCONFIGURED. -/
theorem condition_eq_unconfigured (hm : z.mark = false) (hc : z.entry.configured = 0) : z.condition = .unconfigured := by
  simp [Zone.condition, hm, hc]

end Sys2Proof.Machine.Zone
end

