-- ==== Sys2Proof/Laws/Frames.lean ====
section
/-! SUPPORT. What the shared operations of the blocks can change, once for each: faults and findings, capture lists and
gates, points at their meters, the application of a commit, and the delivery of a boundary event. -/

namespace Sys2Proof.Laws

open Sys2Proof Machine

/-! ## Findings and faults -/

/-- State t differs from s at most in what a verification may change (R147 to R150). -/
def OnlyFault (s t : State) : Prop :=
  t = { s with zones := t.zones, meters := t.meters, analyser := t.analyser, findings := t.findings, attn := t.attn }

theorem OnlyFault.refl (s : State) : OnlyFault s s := rfl

theorem OnlyFault.trans {s t u : State} (h : OnlyFault s t) (h' : OnlyFault t u) : OnlyFault s u := by
  cases s; cases t; cases u
  simp only [OnlyFault, State.mk.injEq] at *
  simp_all

theorem latch_onlyFault (s : State) (flag : Byte) : OnlyFault s (s.latch flag) := rfl

theorem markLost_onlyFault (s : State) (x : Subject) : OnlyFault s (s.markLost x) := by
  cases x <;> rfl

theorem offer_onlyFault (s : State) (x : Finding) : OnlyFault s (s.offer x) := by
  unfold State.offer
  split
  · dsimp only
    split <;> rfl
  · exact (markLost_onlyFault s _).trans rfl

theorem offerAll_onlyFault (s : State) (fs : List Finding) : OnlyFault s (s.offerAll fs) := by
  induction fs generalizing s with
  | nil => rfl
  | cons x fs ih => exact (offer_onlyFault s x).trans (ih _)

theorem setMark_onlyFault (s : State) (e : Subject) : OnlyFault s (s.setMark e) := by
  unfold State.setMark
  cases e <;> (dsimp only; split <;> rfl)

theorem outOfService_onlyFault (s : State) (e : Subject) : OnlyFault s (s.outOfService e) := by
  cases e <;> rfl

theorem finishFault_onlyFault (s : State) (e : Subject) : OnlyFault s (s.finishFault e) :=
  (outOfService_onlyFault s e).trans (offer_onlyFault _ _)

theorem newFault_onlyFault (s : State) (e : Subject) : OnlyFault s (s.newFault e) := by
  unfold State.newFault
  split
  · exact (setMark_onlyFault s e).trans rfl
  · exact (setMark_onlyFault s e).trans (finishFault_onlyFault _ e)

/-- A verification changes zones, meters, the analysis in hand, findings and flags alone. -/
theorem verify_onlyFault (s : State) (e : Subject) : OnlyFault s (s.verify e) := by
  unfold State.verify
  split
  · rfl
  · exact newFault_onlyFault s e

theorem verifyAll_onlyFault (s : State) (es : List Subject) : OnlyFault s (s.verifyAll es) := by
  induction es generalizing s with
  | nil => rfl
  | cons e es ih => exact (verify_onlyFault s e).trans (ih _)

/-- A matching entry, or one whose mark is set, is left alone by a verification. -/
theorem verify_of_settled {s : State} {e : Subject} (h : s.entryMatches e = true ∨ s.entryMark e = true) :
    s.verify e = s := by
  unfold State.verify
  rcases h with h | h <;> simp [h]

theorem testZones_onlyFault (s : State) (m : SlotId) (zs : List ZoneId) : OnlyFault s (s.testZones m zs).1 := by
  induction zs generalizing s with
  | nil => rfl
  | cons z zs ih =>
    simp only [State.testZones]
    split
    · exact (verify_onlyFault s _).trans (ih _)
    · exact verify_onlyFault s _

theorem testPending_onlyFault (s : State) (p : PendingBinding) : OnlyFault s (s.testPending p).1 := by
  unfold State.testPending
  split
  · rfl
  · dsimp only
    split
    · exact testZones_onlyFault s _ _
    · exact (testZones_onlyFault s _ _).trans (verifyAll_onlyFault _ _)

/-- A validation changes only what its verifications change. -/
theorem validate_onlyFault (s : State) (ps : List PendingBinding) : OnlyFault s (s.validate ps).1 := by
  induction ps generalizing s with
  | nil => rfl
  | cons p ps ih =>
    simp only [State.validate]
    split
    · exact testPending_onlyFault s p
    · exact (testPending_onlyFault s p).trans (ih _)

/-! ## Capture lists and gates -/

/-- State t differs from s at most in channels and flags. -/
def OnlyCapture (s t : State) : Prop := t = { s with channels := t.channels, attn := t.attn }

theorem OnlyCapture.refl (s : State) : OnlyCapture s s := rfl

theorem OnlyCapture.trans {s t u : State} (h : OnlyCapture s t) (h' : OnlyCapture t u) : OnlyCapture s u := by
  cases s; cases t; cases u
  simp only [OnlyCapture, State.mk.injEq] at *
  simp_all

theorem modChannel_onlyCapture (s : State) (x : ChanId) (f : Channel → Channel) : OnlyCapture s (s.modChannel x f) := rfl

theorem post_onlyCapture (s : State) (x : ChanId) (r : Capture) : OnlyCapture s (s.post x r) := by
  unfold State.post
  split
  · dsimp only
    split <;> rfl
  · rfl

theorem resume_onlyCapture (s : State) (x : ChanId) : OnlyCapture s (s.resume x) := by
  unfold State.resume
  dsimp only
  split
  · exact (post_onlyCapture s x _).trans (modChannel_onlyCapture _ x _)
  · rfl

theorem sourcesClear_onlyCapture (s : State) (x : ChanId) : OnlyCapture s (s.sourcesClear x) := by
  unfold State.sourcesClear
  split
  · rfl
  · split
    · rfl
    · exact resume_onlyCapture s x
  all_goals rfl

theorem gateEdge_onlyCapture (s : State) (x : ChanId) (before : Bool) : OnlyCapture s (s.gateEdge x before) := by
  unfold State.gateEdge
  split
  · split
    · rfl
    · split
      · exact sourcesClear_onlyCapture s x
      · rfl
  · rfl

/-- A change of one channel reaches channels and flags alone. -/
theorem gateEdges_onlyCapture (s old : State) (cause : ChanId) : OnlyCapture s (s.gateEdges old cause) := by
  unfold State.gateEdges
  generalize (List.finRange 16).filter (· != cause) = xs
  induction xs generalizing s with
  | nil => rfl
  | cons x xs ih => exact (gateEdge_onlyCapture s x _).trans (ih _)

theorem pulse_onlyCapture (s : State) (x : ChanId) : OnlyCapture s (s.pulse x) := by
  unfold State.pulse
  dsimp only
  have counted : OnlyCapture s (s.modChannel x fun c => { c with tally := c.tally + 1, edgeCounted := true }) := rfl
  split
  · split
    · exact (counted.trans (modChannel_onlyCapture _ x _)).trans (post_onlyCapture _ x _)
    · exact counted.trans (modChannel_onlyCapture _ x _)
  · split
    · exact (counted.trans (modChannel_onlyCapture _ x _)).trans (post_onlyCapture _ x _)
    · exact counted.trans (modChannel_onlyCapture _ x _)
  all_goals exact counted

theorem channelBoundary_onlyCapture (s : State) (b : Nat) (x : ChanId) : OnlyCapture s (s.channelBoundary b x) := by
  unfold State.channelBoundary
  dsimp only
  split
  · exact post_onlyCapture s x _
  · exact (post_onlyCapture s x _).trans (modChannel_onlyCapture _ x _)
  all_goals rfl

theorem gatesAfresh_onlyCapture (s : State) : OnlyCapture s s.gatesAfresh := by
  unfold State.gatesAfresh
  generalize List.finRange 16 = xs
  induction xs generalizing s with
  | nil => rfl
  | cons x xs ih =>
    rw [List.foldl_cons]
    split
    · exact (modChannel_onlyCapture s x _).trans (ih _)
    · exact ih s

/-- A list that a record was posted to holds at most four records when it held at most four. -/
theorem postTo_length (list : List Capture) (r : Capture) (h : list.length ≤ 4) : (postTo list r).length ≤ 4 := by
  unfold postTo captureMax
  split
  · simp only [List.length_append, List.length_cons, List.length_nil]
    omega
  · split <;> grind

/-! ## Points -/

/-- State t differs from s at most in what a point of a meter may change; of the intake, only the zones it notes. -/
def OnlyPoint (s t : State) : Prop :=
  t = { s with
    zones := t.zones
    meters := t.meters
    intake := { s.intake with touched := t.intake.touched }
    findings := t.findings
    attn := t.attn }

theorem OnlyPoint.refl (s : State) : OnlyPoint s s := rfl

theorem OnlyPoint.trans {s t u : State} (h : OnlyPoint s t) (h' : OnlyPoint t u) : OnlyPoint s u := by
  cases s; cases t; cases u
  simp only [OnlyPoint, State.mk.injEq] at *
  obtain ⟨h1, -, -, h2, h3, h4, h5, h6, -, h7, h8, -, h9, h10⟩ := h
  obtain ⟨k1, -, -, k2, k3, k4, k5, k6, -, k7, k8, -, k9, k10⟩ := h'
  refine ⟨k1.trans h1, trivial, trivial, k2.trans h2, k3.trans h3, ?_, k5.trans h5, k6.trans h6, trivial,
    k7.trans h7, k8.trans h8, trivial, k9.trans h9, k10.trans h10⟩
  rw [k4, h4]

theorem touchRecord_onlyPoint (s : State) (t : TakenSlot) (f : Dir → NightRecord → NightRecord) (p : ZoneId × Dir) :
    OnlyPoint s (s.touchRecord t f p) := by
  unfold State.touchRecord
  split
  · split
    · dsimp only
      split <;> rfl
    · rfl
  · rfl

theorem touchRecords_onlyPoint (s : State) (t : TakenSlot) (f : Dir → NightRecord → NightRecord) :
    OnlyPoint s (s.touchRecords t f) := by
  unfold State.touchRecords
  generalize (s.meter t.slot).members = ps
  induction ps generalizing s with
  | nil => rfl
  | cons p ps ih => exact (touchRecord_onlyPoint s t f p).trans (ih _)

theorem modMeter_onlyPoint (s : State) (m : SlotId) (f : MeterSlot → MeterSlot) : OnlyPoint s (s.modMeter m f) := rfl

theorem setPoint_onlyPoint (s : State) (m : SlotId) (p : Point) : OnlyPoint s (s.setPoint m p) := rfl

theorem offer_onlyPoint (s : State) (x : Finding) : OnlyPoint s (s.offer x) := by
  unfold State.offer
  split
  · dsimp only
    split <;> rfl
  · cases x.subject <;> rfl

theorem doubtSlot_onlyPoint (s : State) (m : SlotId) : OnlyPoint s (s.doubtSlot m) := by
  unfold State.doubtSlot
  dsimp only
  split
  · exact ((modMeter_onlyPoint s m _).trans (modMeter_onlyPoint _ m _)).trans (offer_onlyPoint _ _)
  · exact modMeter_onlyPoint s m _

theorem coverFirst_onlyPoint (s : State) (t : TakenSlot) (t1 : Nat) : OnlyPoint s (s.coverFirst t t1) :=
  touchRecords_onlyPoint s t _

theorem coverGap_onlyPoint (s : State) (t : TakenSlot) (t0 t1 : Nat) : OnlyPoint s (s.coverGap t t0 t1) :=
  touchRecords_onlyPoint s t _

theorem apportion_onlyPoint (s : State) (t : TakenSlot) (dv t0 t1 : Nat) : OnlyPoint s (s.apportion t dv t0 t1) :=
  touchRecords_onlyPoint s t _

theorem livePoint_onlyPoint (s : State) (t : TakenSlot) (p0 p : Point) : OnlyPoint s (s.livePoint t p0 p).1 := by
  unfold State.livePoint
  dsimp only
  split
  · exact (coverGap_onlyPoint s t _ _).trans (setPoint_onlyPoint _ t.slot p)
  · split
    · exact ((coverGap_onlyPoint s t _ _).trans (doubtSlot_onlyPoint _ t.slot)).trans (setPoint_onlyPoint _ t.slot p)
    · have placed := fun dv => (apportion_onlyPoint s t dv p0.time p.time).trans (setPoint_onlyPoint _ t.slot p)
      dsimp only
      split
      · exact (placed _).trans (modMeter_onlyPoint _ t.slot _)
      · exact placed _

/-- What a new point of a meter may change. -/
theorem takePoint_onlyPoint (s : State) (t : TakenSlot) (p : Point) : OnlyPoint s (s.takePoint t p).1 := by
  have first := (coverFirst_onlyPoint s t p.time).trans (setPoint_onlyPoint _ t.slot p)
  unfold State.takePoint
  dsimp only
  split
  · exact .refl s
  · exact .refl s
  · exact ((coverFirst_onlyPoint s t _).trans (modMeter_onlyPoint _ t.slot _)).trans (setPoint_onlyPoint _ t.slot p)
  · exact first
  · exact first
  · split
    · exact first
    · exact livePoint_onlyPoint s t _ p
  · split
    · exact first
    · exact (coverGap_onlyPoint s t _ _).trans (setPoint_onlyPoint _ t.slot p)

theorem resumeGap_onlyPoint (s : State) (t : TakenSlot) (g r : Nat) (cr : W32) : OnlyPoint s (s.resumeGap t g r cr) :=
  (touchRecords_onlyPoint s t _).trans (setPoint_onlyPoint _ t.slot _)

@[simp] theorem readRecords_slot (s : State) (t : TakenSlot) : (s.readRecords t).slot = t.slot := rfl
@[simp] theorem readRecords_state (s : State) (t : TakenSlot) : (s.readRecords t).state = t.state := rfl
@[simp] theorem readRecords_nights (s : State) (t : TakenSlot) :
    (s.readRecords t).nights = s.acceptingNights t.slot := rfl
@[simp] theorem readRecords_readSlot (s : State) (m : SlotId) : s.readRecords (s.readSlot m) = s.readSlot m := rfl

/-- What the work of a capture record may change. -/
theorem handleRecord_onlyPoint (s : State) (t : TakenSlot) (r : Capture) : OnlyPoint s (s.handleRecord t r) := by
  cases r with
  | pulse t1 c => exact takePoint_onlyPoint s (s.readRecords t) ⟨t1, c⟩
  | boundary t1 c => exact takePoint_onlyPoint s (s.readRecords t) ⟨t1, c⟩
  | resume g cg t1 c => exact (takePoint_onlyPoint s t _).trans (resumeGap_onlyPoint _ t _ _ _)

/-- The search for a record's slot changes only what its verifications change. -/
theorem findClaimant_onlyFault (s : State) (ms : List SlotId) : OnlyFault s (s.findClaimant ms).1 := by
  induction ms generalizing s with
  | nil => rfl
  | cons m ms ih =>
    simp only [State.findClaimant]
    split
    · exact (verify_onlyFault s _).trans (ih _)
    · exact verify_onlyFault s _

/-! ## Commits -/

/-- State t differs from s at most in zones, meters and the stage. -/
def OnlyCommit (s t : State) : Prop := t = { s with zones := t.zones, meters := t.meters, stage := t.stage }

theorem OnlyCommit.trans {s t u : State} (h : OnlyCommit s t) (h' : OnlyCommit t u) : OnlyCommit s u := by
  cases s; cases t; cases u
  simp only [OnlyCommit, State.mk.injEq] at *
  simp_all

theorem modMeter_onlyCommit (s : State) (m : SlotId) (f : MeterSlot → MeterSlot) : OnlyCommit s (s.modMeter m f) := rfl

theorem writeBindings_onlyCommit (s : State) : OnlyCommit s s.writeBindings := by
  unfold State.writeBindings
  generalize s.stage.bindings = ps
  induction ps generalizing s with
  | nil => rfl
  | cons p ps ih => exact (modMeter_onlyCommit s p.slot _).trans (ih _)

theorem followMembers_onlyCommit (s old : State) : OnlyCommit s (s.followMembers old) := by
  simp only [OnlyCommit, State.followMembers, State.mapZones]

theorem modStage_onlyCommit (s : State) (f : Stage → Stage) : OnlyCommit s (s.modStage f) := rfl

/-- The application of a commit changes zones, meters and the stage alone. -/
theorem applyCommit_onlyCommit (s : State) : OnlyCommit s s.applyCommit :=
  ((writeBindings_onlyCommit s).trans (followMembers_onlyCommit _ s)).trans (modStage_onlyCommit _ _)

/-- After the application the stage is empty and its marks are clear. -/
theorem applyCommit_stage (s : State) : s.applyCommit.stage = { bindings := [], commitPending := false, due := false } :=
  rfl

/-! ## Boundary events -/

/-- State t differs from s at most in what the delivery of a boundary event may change. -/
def OnlyBoundary (s t : State) : Prop :=
  t = { s with
    time := { s.time with boundary := t.time.boundary }
    zones := t.zones
    meters := t.meters
    stage := t.stage
    channels := t.channels
    analyser := t.analyser
    findings := t.findings
    checker := t.checker
    attn := t.attn }

theorem OnlyBoundary.refl (s : State) : OnlyBoundary s s := rfl

theorem OnlyBoundary.trans {s t u : State} (h : OnlyBoundary s t) (h' : OnlyBoundary t u) : OnlyBoundary s u := by
  cases s; cases t; cases u
  simp only [OnlyBoundary, State.mk.injEq] at *
  obtain ⟨h1, -, -, -, -, h2, h3, -, -, -, h4, -, h5, h6⟩ := h
  obtain ⟨k1, -, -, -, -, k2, k3, -, -, -, k4, -, k5, k6⟩ := h'
  refine ⟨?_, trivial, trivial, trivial, trivial, k2.trans h2, k3.trans h3, trivial, trivial, trivial, k4.trans h4, trivial,
    k5.trans h5, k6.trans h6⟩
  rw [k1, h1]

theorem OnlyFault.onlyBoundary {s t : State} (h : OnlyFault s t) : OnlyBoundary s t := by rw [h]; rfl

theorem OnlyCapture.onlyBoundary {s t : State} (h : OnlyCapture s t) : OnlyBoundary s t := by rw [h]; rfl

theorem OnlyCommit.onlyBoundary {s t : State} (h : OnlyCommit s t) : OnlyBoundary s t := by rw [h]; rfl

theorem setBoundary_onlyBoundary (s : State) (w : BoundaryWork) : OnlyBoundary s (s.setBoundary w) := rfl

theorem stageBoundary_onlyBoundary (s : State) : OnlyBoundary s s.stageBoundary := by
  unfold State.stageBoundary
  split
  · split
    · exact (applyCommit_onlyCommit s).onlyBoundary
    · rfl
  · rfl

theorem analyserBoundary_onlyBoundary (s : State) (mark : Option GridMark) : OnlyBoundary s (s.analyserBoundary mark) := by
  unfold State.analyserBoundary
  split
  · rfl
  · simp only [OnlyBoundary, State.mapZones]

theorem scrubVerify_onlyBoundary (s : State) (w : BoundaryWork) : OnlyBoundary s (s.scrubVerify w) := by
  unfold State.scrubVerify
  split
  · rfl
  · split
    · rfl
    · have seen := (setBoundary_onlyBoundary s { w with verifies := w.verifies - 1 }).trans
        (verify_onlyFault _ (entryOf (s.checker.scrub + Fin.ofNat 176 (scrubCount - w.verifies)))).onlyBoundary
      dsimp only
      split
      · exact seen.trans rfl
      · exact seen

theorem boundaryPart_onlyBoundary (s : State) (p : BoundaryPart) : OnlyBoundary s (s.boundaryPart p) := by
  unfold State.boundaryPart
  split
  · rfl
  · rename_i w _
    cases p with
    | channel c =>
      dsimp only
      split
      · exact (setBoundary_onlyBoundary s _).trans (channelBoundary_onlyCapture _ _ _).onlyBoundary
      · rfl
    | stage =>
      dsimp only
      split
      · exact (setBoundary_onlyBoundary s _).trans (stageBoundary_onlyBoundary _)
      · rfl
    | analyser =>
      dsimp only
      split
      · exact (setBoundary_onlyBoundary s _).trans (analyserBoundary_onlyBoundary _ _)
      · rfl
    | verify => exact scrubVerify_onlyBoundary s w

/-- The work of a boundary event, whatever parts are named, leaves part time, the pending trim and the grid alone, and the
intake, the table, the modes, the link and the queue too. -/
theorem boundaryParts_onlyBoundary (s : State) (order : List BoundaryPart) : OnlyBoundary s (s.boundaryParts order) := by
  unfold State.boundaryParts
  induction order generalizing s with
  | nil => rfl
  | cons p ps ih => exact (boundaryPart_onlyBoundary s p).trans (ih _)

/-- Parts named in two turns are worked as in one. -/
theorem boundaryParts_append (s : State) (first rest : List BoundaryPart) :
    s.boundaryParts (first ++ rest) = (s.boundaryParts first).boundaryParts rest := List.foldl_append

/-- With no event in delivery no part changes anything. -/
theorem boundaryParts_of_none {s : State} (order : List BoundaryPart) (h : s.time.boundary = none) :
    s.boundaryParts order = s := by
  unfold State.boundaryParts
  induction order with
  | nil => rfl
  | cons p ps ih =>
    rw [List.foldl_cons]
    have : s.boundaryPart p = s := by simp only [State.boundaryPart, h]
    rw [this]
    exact ih

/-- With no event in delivery there is nothing to settle. -/
theorem settle_of_none {s : State} (h : s.time.boundary = none) : s.settle = s := by simp only [State.settle, h]

/-- A settled state has no event in delivery. -/
theorem settle_boundary (s : State) : s.settle.time.boundary = none := by
  unfold State.settle
  split
  · assumption
  · rfl

/-! ## The link beside a boundary event -/

/-- State s with the link l, and nothing else changed. -/
def withLink (l : Link) (s : State) : State := { s with link := l }

theorem offer_link (s : State) (l : Link) (x : Finding) : (withLink l s).offer x = withLink l (s.offer x) := by
  simp only [State.offer, apply_ite (withLink l)]
  cases x.subject <;> rfl

theorem outOfService_link (s : State) (l : Link) (e : Subject) :
    (withLink l s).outOfService e = withLink l (s.outOfService e) := by cases e <;> rfl

theorem setMark_link (s : State) (l : Link) (e : Subject) : (withLink l s).setMark e = withLink l (s.setMark e) := by
  simp only [State.setMark, apply_ite (withLink l)]
  cases e <;> rfl

theorem newFault_link (s : State) (l : Link) (e : Subject) : (withLink l s).newFault e = withLink l (s.newFault e) := by
  unfold State.newFault
  rw [apply_ite (withLink l), setMark_link]
  unfold State.finishFault
  rw [outOfService_link, offer_link]
  rfl

theorem verify_link (s : State) (l : Link) (e : Subject) : (withLink l s).verify e = withLink l (s.verify e) := by
  unfold State.verify
  rw [apply_ite (withLink l), newFault_link]
  rfl

theorem writeBindings_link (s : State) (l : Link) : (withLink l s).writeBindings = withLink l s.writeBindings := by
  unfold State.writeBindings
  show List.foldl _ _ s.stage.bindings = _
  generalize s.stage.bindings = ps
  induction ps generalizing s with
  | nil => rfl
  | cons p ps ih => exact ih (s.modMeter p.slot (·.apply p.binding))

theorem stageBoundary_link (s : State) (l : Link) : (withLink l s).stageBoundary = withLink l s.stageBoundary := by
  unfold State.stageBoundary State.applyCommit
  rw [writeBindings_link, apply_ite (withLink l), apply_ite (withLink l)]
  rfl

theorem analyserBoundary_link (s : State) (l : Link) (mark : Option GridMark) :
    (withLink l s).analyserBoundary mark = withLink l (s.analyserBoundary mark) := by cases mark <;> rfl

theorem post_link (s : State) (l : Link) (x : ChanId) (r : Capture) : (withLink l s).post x r = withLink l (s.post x r) := by
  unfold State.post
  rw [apply_ite (withLink l), apply_ite (withLink l)]
  rfl

theorem channelBoundary_link (s : State) (l : Link) (b : Nat) (x : ChanId) :
    (withLink l s).channelBoundary b x = withLink l (s.channelBoundary b x) := by
  unfold State.channelBoundary
  have same : (withLink l s).channel x = s.channel x := rfl
  simp only [same, post_link]
  cases (s.channel x).state <;> rfl

theorem scrubVerify_link (s : State) (l : Link) (w : BoundaryWork) :
    (withLink l s).scrubVerify w = withLink l (s.scrubVerify w) := by
  unfold State.scrubVerify
  have seen : ∀ w' e, ((withLink l s).setBoundary w').verify e = withLink l ((s.setBoundary w').verify e) :=
    fun w' e => verify_link (s.setBoundary w') l e
  simp only [seen, apply_ite (withLink l)]
  rfl

theorem boundaryPart_link (s : State) (l : Link) (p : BoundaryPart) :
    (withLink l s).boundaryPart p = withLink l (s.boundaryPart p) := by
  unfold State.boundaryPart
  show (match s.time.boundary with | none => _ | some w => _) = _
  cases s.time.boundary with
  | none => rfl
  | some w =>
    cases p with
    | channel c =>
      have := channelBoundary_link (s.setBoundary { w with channels := w.channels.erase c }) l w.event.time c
      simp only [apply_ite (withLink l)]; rw [← this]; rfl
    | stage =>
      have := stageBoundary_link (s.setBoundary { w with stage := false }) l
      simp only [apply_ite (withLink l)]; rw [← this]; rfl
    | analyser =>
      have := analyserBoundary_link (s.setBoundary { w with analyser := false }) l w.event.mark
      simp only [apply_ite (withLink l)]; rw [← this]; rfl
    | verify => exact scrubVerify_link s l w

theorem boundaryParts_link (s : State) (l : Link) (order : List BoundaryPart) :
    (withLink l s).boundaryParts order = withLink l (s.boundaryParts order) := by
  unfold State.boundaryParts
  induction order generalizing s with
  | nil => rfl
  | cons p ps ih => rw [List.foldl_cons, boundaryPart_link, ih]; rfl

/-- Settling an event in delivery reads nothing of the link and leaves it alone. -/
theorem settle_link (s : State) (l : Link) : (withLink l s).settle = withLink l s.settle := by
  unfold State.settle
  rw [boundaryParts_link]
  show (match s.time.boundary with | none => _ | some w => _) = _
  cases s.time.boundary <;> rfl

/-! ## The end of STARTING -/

/-- Outside STARTING there is no STARTING to end. -/
theorem endStarting_of_ne {s : State} (h : s.mode ≠ .starting) : s.endStarting = s := if_neg h

/-- In STARTING the mode becomes SETUP and the pass is abandoned, and nothing else changes (R155, R162). -/
theorem endStarting_of_starting {s : State} (h : s.mode = .starting) :
    s.endStarting = { s with checker := s.checker.abandon, ctl := { s.ctl with mode := .setup } } := if_pos h

end Sys2Proof.Laws
end

