-- ==== Sys2Proof/Laws/PerInstr.lean ====
section
/-! SUPPORT. A law of every command as syntax: the frame of a well-formed request fits the line (R176). -/

namespace Sys2Proof.Laws.FrameLength

open Sys2Proof Machine

/-- The body of the frame of a well-formed request is at most 238 bytes long, so its length byte is at most 240 (R176). -/
def Statement (i : Instr) : Prop :=
  i.wellFormed = true → ∀ f, encodeRequest i = some f → f.body.length ≤ maxBody

/-- A pair takes eight bytes (R183). -/
theorem pairs_length (ps : List Pair) : (ps.map pairBytes).flatten.length = 8 * ps.length := by
  induction ps with
  | nil => rfl
  | cons p ps ih => simp [pairBytes, be32, ih]; omega

/-- A word takes two bytes (R176). -/
theorem words_length (ws : List W16) : (ws.map be16).flatten.length = 2 * ws.length := by
  induction ws with
  | nil => rfl
  | cons w ws ih => simp [be16, ih]; omega

theorem secondTick (order : List BoundaryPart) (share : SecondShare) : Statement (.secondTick order share) := by
  intro _ f hf
  cases hf

theorem standstillEnd : Statement (.standstillEnd) := by
  intro _ f hf
  cases hf

theorem pinChange (ch : ChanId) (high : Bool) (sinceEdgeMicros : Nat) : Statement (.pinChange ch high sinceEdgeMicros) := by
  intro _ f hf
  cases hf

theorem statusLevelChange (ch : ChanId) : Statement (.statusLevelChange ch) := by
  intro _ f hf
  cases hf

theorem byteReceived (e : RxEvent) : Statement (.byteReceived e) := by
  intro _ f hf
  cases hf

theorem frameGapTimeout : Statement (.frameGapTimeout) := by
  intro _ f hf
  cases hf

theorem replySent : Statement (.replySent) := by
  intro _ f hf
  cases hf

theorem unknownKind (ft kind : Byte) (body : List Byte) : Statement (.unknownKind ft kind body) := by
  intro hw f hf
  cases hf
  exact of_decide_eq_true (Bool.and_eq_true_iff.mp hw).2

theorem powerOn (rate1 rate0 : Bool) : Statement (.powerOn rate1 rate0) := by
  intro _ f hf
  cases hf

theorem pinReset (rate1 rate0 : Bool) : Statement (.pinReset rate1 rate0) := by
  intro _ f hf
  cases hf

theorem statusGet (ft : Byte) : Statement (.statusGet ft) := by
  intro _ f hf
  cases hf
  exact Nat.le_of_ble_eq_true rfl

theorem enterSetup (ft : Byte) : Statement (.enterSetup ft) := by
  intro _ f hf
  cases hf
  exact Nat.le_of_ble_eq_true rfl

theorem leavingPhaseEnd : Statement (.leavingPhaseEnd) := by
  intro _ f hf
  cases hf

theorem leaveSetup (ft : Byte) : Statement (.leaveSetup ft) := by
  intro _ f hf
  cases hf
  exact Nat.le_of_ble_eq_true rfl

theorem restart (ft : Byte) : Statement (.restart ft) := by
  intro _ f hf
  cases hf
  exact Nat.le_of_ble_eq_true rfl

theorem restartClear : Statement (.restartClear) := by
  intro _ f hf
  cases hf

theorem setClock (ft : Byte) (time : W32) : Statement (.setClock ft time) := by
  intro _ f hf
  cases hf
  exact Nat.le_of_ble_eq_true rfl

theorem setGrid (ft : Byte) (grid : GridFields) : Statement (.setGrid ft grid) := by
  intro _ f hf
  cases hf
  exact Nat.le_of_ble_eq_true rfl

theorem timeMark (ft : Byte) (reference : W32) : Statement (.timeMark ft reference) := by
  intro _ f hf
  cases hf
  exact Nat.le_of_ble_eq_true rfl

theorem setZone (ft zone option : Byte) (settings : ZoneSettings) : Statement (.setZone ft zone option settings) := by
  intro _ f hf
  cases hf
  exact Nat.le_of_ble_eq_true rfl

theorem setZoneUnconfigure (ft zone : Byte) (settings : ZoneSettings) : Statement (.setZoneUnconfigure ft zone settings) := by
  intro _ f hf
  cases hf
  exact Nat.le_of_ble_eq_true rfl

theorem zoneGet (ft zone : Byte) : Statement (.zoneGet ft zone) := by
  intro _ f hf
  cases hf
  exact Nat.le_of_ble_eq_true rfl

theorem nightGetSummary (ft zone part firstBin : Byte) : Statement (.nightGetSummary ft zone part firstBin) := by
  intro _ f hf
  cases hf
  exact Nat.le_of_ble_eq_true rfl

theorem nightGetVolumes (ft zone firstBin : Byte) : Statement (.nightGetVolumes ft zone firstBin) := by
  intro _ f hf
  cases hf
  exact Nat.le_of_ble_eq_true rfl

theorem nightGetPressure (ft zone firstBin : Byte) : Statement (.nightGetPressure ft zone firstBin) := by
  intro _ f hf
  cases hf
  exact Nat.le_of_ble_eq_true rfl

theorem historyGet (ft zone : Byte) : Statement (.historyGet ft zone) := by
  intro _ f hf
  cases hf
  exact Nat.le_of_ble_eq_true rfl

theorem holdZoneSet (ft zone action : Byte) : Statement (.holdZoneSet ft zone action) := by
  intro _ f hf
  cases hf
  exact Nat.le_of_ble_eq_true rfl

theorem holdZoneRelease (ft zone : Byte) : Statement (.holdZoneRelease ft zone) := by
  intro _ f hf
  cases hf
  exact Nat.le_of_ble_eq_true rfl

theorem clearZoneRelearn (ft zone option : Byte) : Statement (.clearZoneRelearn ft zone option) := by
  intro _ f hf
  cases hf
  exact Nat.le_of_ble_eq_true rfl

theorem clearZoneRebase (ft zone : Byte) : Statement (.clearZoneRebase ft zone) := by
  intro _ f hf
  cases hf
  exact Nat.le_of_ble_eq_true rfl

theorem clearZoneKeep (ft zone : Byte) : Statement (.clearZoneKeep ft zone) := by
  intro _ f hf
  cases hf
  exact Nat.le_of_ble_eq_true rfl

theorem baselineGet (ft zone : Byte) : Statement (.baselineGet ft zone) := by
  intro _ f hf
  cases hf
  exact Nat.le_of_ble_eq_true rfl

theorem baselinePut (ft zone : Byte) (baseline spread : W32) (settling : Byte) : Statement (.baselinePut ft zone baseline spread settling) := by
  intro _ f hf
  cases hf
  exact Nat.le_of_ble_eq_true rfl

theorem stageMeter (ft slot : Byte) (binding : MeterBinding) : Statement (.stageMeter ft slot binding) := by
  intro _ f hf
  cases hf
  exact Nat.le_of_ble_eq_true rfl

theorem commitStage (ft : Byte) : Statement (.commitStage ft) := by
  intro _ f hf
  cases hf
  exact Nat.le_of_ble_eq_true rfl

theorem discardStage (ft : Byte) : Statement (.discardStage ft) := by
  intro _ f hf
  cases hf
  exact Nat.le_of_ble_eq_true rfl

theorem meterGet (ft slot : Byte) : Statement (.meterGet ft slot) := by
  intro _ f hf
  cases hf
  exact Nat.le_of_ble_eq_true rfl

theorem meterRelease (ft slot : Byte) : Statement (.meterRelease ft slot) := by
  intro _ f hf
  cases hf
  exact Nat.le_of_ble_eq_true rfl

theorem setChannel (ft ch mode divider gateLine timing restartMode : Byte) : Statement (.setChannel ft ch mode divider gateLine timing restartMode) := by
  intro _ f hf
  cases hf
  exact Nat.le_of_ble_eq_true rfl

theorem channelGet (ft ch : Byte) : Statement (.channelGet ft ch) := by
  intro _ f hf
  cases hf
  exact Nat.le_of_ble_eq_true rfl

theorem gateChannelSet (ft ch action : Byte) : Statement (.gateChannelSet ft ch action) := by
  intro _ f hf
  cases hf
  exact Nat.le_of_ble_eq_true rfl

theorem gateChannelRelease (ft ch : Byte) : Statement (.gateChannelRelease ft ch) := by
  intro _ f hf
  cases hf
  exact Nat.le_of_ble_eq_true rfl

theorem reading (ft slot : Byte) (tag : W32) (pair : Pair) : Statement (.reading ft slot tag pair) := by
  intro _ f hf
  cases hf
  exact Nat.le_of_ble_eq_true rfl

theorem readingBatch (ft slot : Byte) (tag : W32) (pairs : List Pair) : Statement (.readingBatch ft slot tag pairs) := by
  intro hw f hf
  cases hf
  have hp : pairs.length ≤ 29 := of_decide_eq_true hw
  simp only [List.length_append, pairs_length, be32, maxBody, List.length_cons, List.length_nil]
  omega

theorem readingPair : Statement (.readingPair) := by
  intro _ f hf
  cases hf

theorem captureRecord (ch : ChanId) : Statement (.captureRecord ch) := by
  intro _ f hf
  cases hf

theorem resumeRecord (ch : ChanId) : Statement (.resumeRecord ch) := by
  intro _ f hf
  cases hf

theorem intakeItemEnd (order : List ItemEndPart) : Statement (.intakeItemEnd order) := by
  intro _ f hf
  cases hf

theorem pressure (ft zone : Byte) (time : W32) (value : W16) : Statement (.pressure ft zone time value) := by
  intro _ f hf
  cases hf
  exact Nat.le_of_ble_eq_true rfl

theorem setPressureTable (ft : Byte) (entries : Vector W16 17) : Statement (.setPressureTable ft entries) := by
  intro _ f hf
  cases hf
  simp only [words_length, Vector.length_toList, maxBody]
  omega

theorem pressureTableQuery (ft : Byte) : Statement (.pressureTableQuery ft) := by
  intro _ f hf
  cases hf
  exact Nat.le_of_ble_eq_true rfl

theorem analyserTakeZone (pick : Option ZoneId) : Statement (.analyserTakeZone pick) := by
  intro _ f hf
  cases hf

theorem nightAnalysisEnd : Statement (.nightAnalysisEnd) := by
  intro _ f hf
  cases hf

theorem findingsTake (ft n : Byte) : Statement (.findingsTake ft n) := by
  intro _ f hf
  cases hf
  exact Nat.le_of_ble_eq_true rfl

theorem attnGet (ft : Byte) : Statement (.attnGet ft) := by
  intro _ f hf
  cases hf
  exact Nat.le_of_ble_eq_true rfl

theorem attnClear (ft flags : Byte) : Statement (.attnClear ft flags) := by
  intro _ f hf
  cases hf
  exact Nat.le_of_ble_eq_true rfl

theorem attnEnable (ft mask : Byte) : Statement (.attnEnable ft mask) := by
  intro _ f hf
  cases hf
  exact Nat.le_of_ble_eq_true rfl

theorem entryRaw (ft kind number : Byte) : Statement (.entryRaw ft kind number) := by
  intro _ f hf
  cases hf
  exact Nat.le_of_ble_eq_true rfl

theorem checkPass (ft : Byte) : Statement (.checkPass ft) := by
  intro _ f hf
  cases hf
  exact Nat.le_of_ble_eq_true rfl

theorem checkPassVerify : Statement (.checkPassVerify) := by
  intro _ f hf
  cases hf

theorem resetPinLow : Statement (.resetPinLow) := by
  intro _ f hf
  cases hf

end Sys2Proof.Laws.FrameLength
end

