-- ==== Sys2Proof/Laws/Requests.lean ====
section
/-! SUPPORT. What the link's shared operations do, once: forming a reply, taking a request, offering a frame. -/

namespace Sys2Proof.Machine

open Sys2Proof Sys2Proof.Safety

/-- State s with frame `f` as the request in hand, waiting for its owner. -/
def State.inHand (s : State) (f : Frame) : State :=
  s.modLink fun l => { l with hand := some { frame := f, phase := .waiting } }

/-- A free request is handed to its owner. -/
theorem State.request_free {s : State} {c : Instr} {f : Frame} (act : State → State)
    (hf : encodeRequest c = some f) (h : Free s f) : s.request c act = act (s.inHand f) := by
  obtain ⟨hr, hn | hw⟩ := h
  · simp [State.request, hr, hf, hn, State.inHand]
  · have : s.inHand f = s := by
      obtain ⟨_, _, _, _, _, _, _, _, _, _, _, _, ⟨_, _, _, _, _, _⟩, _⟩ := s
      simp_all [State.inHand, State.modLink]
    simp [State.request, hr, hf, hw, this]

/-- While the RESET pin is low no request is taken. -/
theorem State.request_resetLow {s : State} (c : Instr) (act : State → State) (h : s.link.resetLow = true) :
    s.request c act = s := by
  simp [State.request, h]

/-- While another request is in hand, a request's frame joins the queue or is dropped. -/
theorem State.request_busy {s : State} {c : Instr} {f : Frame} {r : InHand} (act : State → State)
    (hf : encodeRequest c = some f) (hr : s.link.resetLow = false) (hh : s.link.hand = some r)
    (hne : r ≠ { frame := f, phase := .waiting }) : s.request c act = s.offerFrame f := by
  simp [State.request, hr, hf, hh, hne]

/-- Forming a reply changes the link alone. -/
theorem State.answer_eq (s : State) (st : Status) (body : List Byte) :
    s.answer st body = { s with link := (s.answer st body).link } := by
  unfold State.answer
  split
  · rfl
  · split <;> rfl

/-- The reply to the request in hand. -/
theorem State.answer_hand {s : State} {h : InHand} (st : Status) (body : List Byte) (hh : s.link.hand = some h)
    (hr : s.link.resetLow = false) : s.answer st body = replied s h.frame st body := by
  simp [State.answer, hh, hr, replied, replyOf, State.modLink]

/-- Setting the request in hand does not show in a reply. -/
theorem replied_inHand (s : State) (f : Frame) (st : Status) (body : List Byte) :
    replied (s.inHand f) f st body = replied s f st body := rfl

/-- The owner at work on the request that was put in hand. -/
theorem State.setWorking_inHand (s : State) (f : Frame) : (s.inHand f).setWorking = working s f := rfl

/-- A free request that its owner answers without touching the link. -/
theorem State.answer_inHand {s t : State} {f : Frame} (st : Status) (body : List Byte)
    (hl : t.link = (s.inHand f).link) (hr : s.link.resetLow = false) :
    t.answer st body = replied { t with link := s.link } f st body := by
  have h1 : t.link.hand = some { frame := f, phase := .waiting } := by rw [hl]; rfl
  have h2 : t.link.resetLow = false := by rw [hl]; exact hr
  rw [State.answer_hand st body h1 h2]
  cases t with
  | mk =>
    simp only at hl
    subst hl
    rfl

/-- A refusal of a request that was put in hand. -/
theorem State.refuse_inHand {s : State} {f : Frame} (st : Status) (item : Nat) (hr : s.link.resetLow = false) :
    (s.inHand f).refuse st item = replied s f st (itemOnly (BitVec.ofNat 8 item)) :=
  State.answer_inHand (s := s) st _ rfl hr

/-- The input queue never holds more than two frames after an offer. -/
theorem State.offerFrame_length (s : State) (f : Frame) (h : s.link.queue.length ≤ 2) :
    (s.offerFrame f).link.queue.length ≤ 2 := by
  unfold State.offerFrame inputMax
  simp only [State.link_modLink]
  split
  · simp; omega
  · exact h

/-- Offering a frame changes the link alone. -/
theorem State.offerFrame_eq (s : State) (f : Frame) :
    s.offerFrame f = { s with link := (s.offerFrame f).link } := rfl

end Sys2Proof.Machine
end

