-- ==== Sys2Proof/Tests/Slice0.lean ====
section
/-! SUPPORT. Tests: ill-formed commands are refused by the check, frames decode to the commands they stand for, worked cases
of the manual come out as it prints them, and for every statement with hypotheses a state and operands that meet them, at
the boundaries where its clauses meet. A test about a request starts from a state whose link is that of reset, so the
request is free (test_requestsAreFree) and its frame exists (test_requestFrames). -/

namespace Sys2Proof.Tests

-- One theorem after another: many evaluations at once exhaust the memory limit.
set_option Elab.async false

open Sys2Proof Sys2Proof.Machine Sys2Proof.Safety

/-! ## Helpers -/

/-- The state after one command. -/
def after (c : Instr) (s : State) : State :=
  match exec c s with
  | .next t => t
  | .fault _ => s
  | .refused _ => s

/-- Status and body of the reply being sent. -/
def reply (s : State) : Option (Status × List Byte) :=
  match s.link.hand with
  | some ⟨_, .sending r⟩ => some (r.status, r.body)
  | _ => none

/-- The reply to one request. -/
def ask (c : Instr) (s : State) : Option (Status × List Byte) := reply (after c s)

/-- A refusal detail that names an item. -/
def refused (st : Status) (item : Byte) : Option (Status × List Byte) := some (st, itemOnly item)

/-- The reset state in another mode. -/
def inMode (m : Mode) : State := { State.reset with ctl := { mode := m, leaving := none, restarting := false } }

/-- Part time set. -/
def at_ (t : Nat) (s : State) : State := { s with time := { s.time with partTime := t } }

/-- Settings inside every range (2.3), with those of the worked case of 7.6. -/
def settings : ZoneSettings :=
  { lz := 3000000, pref := 3500, correction := 1, tfloor := 500000, multiplier := 8, tburst := 5000000,
    balance := 1000000, kNights := 2, mNights := 3, rClear := 2, lLatch := 2, nSettle := 7, shift := 3, holdLine := 0xFF }

/-- A configured zone in a condition, settled, its entry matching its code. -/
def zoneIn (c : Condition) : Zone :=
  { resetZone with entry := ⟨1, settings⟩, code := zoneCode ⟨1, settings⟩, kept := c, settling := 7,
                   baseline := 12900000, spread := 300000 }

/-- A REMOTE binding with one IN membership. -/
def remote (tag : W32) (zone : Byte) : MeterBinding :=
  { source := 1, channel := 0, tag := tag, volume := 10, digits := 6, qmax := 20000, count := 1, zone1 := zone,
    dir1 := 0, zone2 := 0, dir2 := 0 }

/-- A PULSE binding with one IN membership. -/
def pulseOn (ch : Byte) (tag : W32) (zone : Byte) : MeterBinding :=
  { remote tag zone with source := 2, channel := ch, digits := 0 }

/-- A slot in a state, its entry matching its code. -/
def slotIn (st : SlotState) (b : MeterBinding) (p : Option Point) : MeterSlot :=
  { resetMeter with state := st, binding := b, code := bindingCode b, lastPoint := p }

/-- An open record of the reset grid. -/
def recordIn (st : RecordState) (night : Nat) (members : List Member) : NightRecord :=
  { night := night, state := st, bins := List.replicate 8 ⟨0, 0, 0⟩, members := members, held := false, changed := false }

/-- A COUNT channel. -/
def countChannel (st : ChanState) : Channel :=
  { resetChannel with mode := .count, divider := 4, state := st, gateLine := some 6, tally := 5016 }

/-- Every state of these tests has the link of reset, so every request in it is free. -/
theorem test_requestsAreFree (s : State) (f : Frame) (h : s.link = State.reset.link) : Free s f := by
  unfold Free
  rw [h]
  exact ⟨rfl, .inl rfl⟩

/-- A few of the frames of requests; every request has one. -/
theorem test_requestFrames :
    encodeRequest (.setClock 7 900) = some ⟨7, 0x05, [0, 0, 3, 132]⟩ ∧
      encodeRequest (.zoneGet 0x42 12) = some ⟨0x42, 0x11, [12]⟩ ∧
      encodeRequest (.gateChannelRelease 1 2) = some ⟨1, 0x32, [2, 1]⟩ ∧
      encodeRequest (.readingBatch 1 2 3 [⟨4, 5⟩]) = some ⟨1, 0x41, [2, 0, 0, 0, 3, 1, 0, 0, 0, 4, 0, 0, 0, 5]⟩ := by
  decide

/-! ## Well-formedness: each check refuses a command that fails it -/

theorem test_unknownKindInCatalogue : (Instr.unknownKind 0 0x11 []).wellFormed = false := by decide
theorem test_unknownKindTooLong : (Instr.unknownKind 0 0x99 (List.replicate 239 0)).wellFormed = false := by decide +kernel
theorem test_setZoneOtherRow : (Instr.setZone 0 0 1 settings).wellFormed = false := by decide
theorem test_nightGetOtherRows : (Instr.nightGetSummary 0 0 1 0).wellFormed = false ∧
    (Instr.nightGetSummary 0 0 2 0).wellFormed = false := by decide
theorem test_holdZoneOtherRow : (Instr.holdZoneSet 0 0 1).wellFormed = false := by decide
theorem test_clearZoneOtherRows : (Instr.clearZoneRelearn 0 0 1).wellFormed = false ∧
    (Instr.clearZoneRelearn 0 0 2).wellFormed = false := by decide
theorem test_gateChannelOtherRow : (Instr.gateChannelSet 0 0 1).wellFormed = false := by decide
theorem test_batchTooLong : (Instr.readingBatch 0 0 0 (List.replicate 30 ⟨0, 0⟩)).wellFormed = false := by decide +kernel
theorem test_batchLongest : (Instr.readingBatch 0 0 0 (List.replicate 29 ⟨0, 0⟩)).wellFormed = true := by decide +kernel

/-! ## Frames and CRC -/

/-- The check value of the CRC of R176 over "123456789". -/
theorem test_crc : crc16 [0x31, 0x32, 0x33, 0x34, 0x35, 0x36, 0x37, 0x38, 0x39] = 0x29B1 := by decide +kernel

/-- 12.8: ZONE-GET for zone 12. -/
theorem test_decodeZoneGet : decodeRequest ⟨0x42, 0x11, [0x0C]⟩ = some (.zoneGet 0x42 12) := by decide

theorem test_decodeGroups :
    decodeRequest ⟨1, 0x01, []⟩ = some (.statusGet 1) ∧
      decodeRequest ⟨1, 0x07, [0x65, 0xF7, 0xD0, 0x00]⟩ = some (.timeMark 1 0x65F7D000) ∧
      decodeRequest ⟨1, 0x15, [4, 1]⟩ = some (.clearZoneRebase 1 4) ∧
      decodeRequest ⟨1, 0x24, [0x7F]⟩ = some (.meterRelease 1 127) ∧
      decodeRequest ⟨1, 0x30, [5, 1, 4, 6, 0, 0]⟩ = some (.setChannel 1 5 1 4 6 0 0) ∧
      decodeRequest ⟨1, 0x42, [12, 0, 0, 1, 0, 0x0F, 0x3D]⟩ = some (.pressure 1 12 256 3901) ∧
      decodeRequest ⟨1, 0x53, [0x7F]⟩ = some (.attnEnable 1 0x7F) ∧
      decodeRequest ⟨1, 0x60, [1, 11]⟩ = some (.entryRaw 1 1 11) := by
  decide

/-- Outside the catalogue: UNKNOWN-KIND; the wrong length: BAD-LENGTH (none). -/
theorem test_decodeOutside : decodeRequest ⟨1, 0x91, []⟩ = some (.unknownKind 1 0x91 []) ∧
    decodeRequest ⟨1, 0x11, []⟩ = none ∧ decodeRequest ⟨1, 0x41, [0, 0, 0, 0, 0]⟩ = none := by decide

/-! ## The step -/

theorem test_step :
    (match step { State.reset with pending := [.replySent, .standstillEnd] } with
      | .next t => t.pending
      | _ => []) = [.standstillEnd] := by decide +kernel

/-- The state after one step. -/
def stepped (s : State) : State :=
  match step s with
  | .next t => t
  | .fault _ => s
  | .refused _ => s

/-- With no command waiting an event in delivery comes to its end; without one nothing happens. -/
theorem test_idle :
    (stepped (after (.secondTick [] .start) { State.reset with time :=
      { State.reset.time with partTime := 899, pendingTrim := 5 } })).time =
        { State.reset.time with partTime := 902, pendingTrim := 3 } ∧
      (stepped State.reset).time = State.reset.time := by decide +kernel

/-! ## Time base: the worked sequence of 1.8 -/

/-- The time base at a part time with a pending trim and a standstill. -/
def clock (t : Nat) (p : Int) (stand : Nat) : TimeBase :=
  { State.reset.time with partTime := t, pendingTrim := p, standstill := stand }

/-- RUN with that time base. -/
def running (t : Nat) (p : Int) (stand : Nat) : State := { inMode .run with time := clock t p stand }

theorem test_trimJump : (after (.secondTick [] .whole) (running 1710723599 5 0)).time = clock 1710723602 3 0 := by
  decide +kernel

theorem test_trimStandstill : (after (.secondTick [.analyser, .verify] .whole) (running 1710726299 (-3) 0)).time =
    clock 1710726300 (-1) 2 := by decide +kernel

/-- WINDOW-START, WINDOW-END and DEADLINE of night 0 on the reset grid. -/
def night0 (st : RecordState) (t : Nat) : State :=
  (running t 0 0).putZone 3 { zoneIn .clear with record := some (recordIn st 0 []) }

/-- The event of a boundary tick taken in part: its time, interval number and grid mark; part time is on the boundary, and the
trim step comes with the rest. -/
theorem test_trimLater :
    (after (.secondTick [] .start) (running 1710723599 5 0)).time.boundary.map (·.event) =
        some ⟨1710723600, 4, none⟩ ∧
      (after (.secondTick [] .start) (running 1710723599 5 0)).time.partTime = 1710723600 ∧
      (after (.secondTick [] .rest) (after (.secondTick [.stage] .start) (running 1710723599 5 0))).time =
        clock 1710723602 3 0 ∧
      (after (.secondTick [] .start) (night0 .waiting 7199)).time.boundary.map (·.event) =
        some ⟨7200, 8, some (.windowStart 0)⟩ := by decide +kernel

theorem test_boundaryNoTrim : (after (.secondTick [] .whole) (running 899 0 0)).time = clock 900 0 0 ∧
    (after (.secondTick [] .whole) (running 899 0 0)).checker.scrub = 16 := by decide +kernel

theorem test_ticks :
    (after (.secondTick [] .whole) (running 1710726300 (-4) 2)).time = clock 1710726300 (-4) 1 ∧
      (after (.secondTick [] .whole) (running 4294967295 7 0)).time = clock 4294967295 7 0 ∧
      (after (.secondTick [] .whole) (running 1710726300 (-4) 0)).time = clock 1710726301 (-4) 0 ∧
      (after .standstillEnd (running 1710726300 (-4) 1)).time = clock 1710726300 (-4) 0 ∧
      (after .standstillEnd (running 5 (-4) 2)).time = clock 5 (-4) 2 := by decide +kernel

/-- Step 13 of 1.8, an offset of −600, and the mode. -/
theorem test_timeMark :
    ask (.timeMark 1 1710728800) (running 1710728100 0 2) =
        some (.clockFar, itemOnly 0 ++ [0x65, 0xF7, 0xA3, 0xA4] ++ [0, 0, 2, 0xBC]) ∧
      (after (.timeMark 1 1710728800) (running 1710728100 0 2)).attn.latched = 0x28 ∧
      (after (.timeMark 1 400) (running 1000 9 0)).time.pendingTrim = -600 ∧
      ask (.timeMark 1 400) (inMode .starting) = refused .wrongState 0 := by decide +kernel

theorem test_setClock : (after (.setClock 7 900) { inMode .setup with time := clock 5 4 3 }).time = clock 900 0 0 ∧
    ask (.setClock 7 900) (inMode .setup) = some (.ok, [0, 0, 3, 132]) ∧
    ask (.setClock 7 900) (inMode .run) = refused .wrongState 0 := by decide +kernel

/-- Grid fields: interval, window start in seconds, length, delay. -/
def gridWith (i : Byte) (start : W32) (length delay : W16) : GridFields :=
  { interval := i, windowStart := start, windowLength := length, closeDelay := delay, spanLimit := 900, trimStep := 4 }

theorem test_setGrid :
    gridItem (gridWith 5 86100 160 60) = none ∧
      (after (.setGrid 1 (gridWith 5 86100 160 60)) (inMode .setup)).time.grid = ⟨5, 86100, 160, 60, 900, 4⟩ ∧
      ask (.setGrid 1 (gridWith 7 0 160 60)) (inMode .setup) = some (.range, itemOnly 0 ++ gridBytes resetGrid) ∧
      ask (.setGrid 1 (gridWith 5 1 160 60)) (inMode .setup) = some (.range, itemOnly 1 ++ gridBytes resetGrid) ∧
      ask (.setGrid 1 (gridWith 5 0 165 60)) (inMode .setup) = some (.range, itemOnly 5 ++ gridBytes resetGrid) ∧
      ask (.setGrid 1 (gridWith 15 0 480 855)) (inMode .setup) = some (.range, itemOnly 7 ++ gridBytes resetGrid) ∧
      ask (.setGrid 1 (gridWith 5 0 160 60)) (inMode .run) = refused .wrongState 0 := by decide +kernel

theorem test_gridMarks :
    gridFault (night0 .waiting 7199).time.grid = none ∧ (night0 .waiting 7199).stage.commitPending = false ∧
      ((after (.secondTick [] .whole) (night0 .waiting 7199)).zone 3).record = some (recordIn .collecting 0 []) ∧
      ((after (.secondTick [] .whole) (night0 .collecting 14399)).zone 3).record = some (recordIn .draining 0 []) ∧
      ((after (.secondTick [] .whole) (night0 .draining 43199)).zone 3).record = some (recordIn .closing 0 []) ∧
      ((after (.secondTick [] .whole) (night0 .waiting 14399)).zone 3).record = some (recordIn .waiting 0 []) := by
  decide +kernel

/-- Every entry of those states matches its code. -/
theorem test_entriesMatch (e : Subject) : (night0 .waiting 7199).entryMatches e = true := by
  cases e with
  | zone z =>
    simp only [State.entryMatches, night0, State.zone_putZone]
    split
    · simp [zoneIn]
    · simp [State.zone, running, inMode, State.reset, resetZone]
  | meter m => simp [State.entryMatches, night0, State.meter, State.putZone, running, inMode, State.reset, resetMeter]

/-! ## Channels -/

/-- A state with channels 5 (COUNT, gate line 6) and 6 (STATUS). -/
def gated (m : Mode) (five : Channel) (sixHigh sixAsserted : Bool) : State :=
  ((inMode m).putChannel 5 five).putChannel 6
    { resetChannel with mode := .status, state := .status, pinHigh := sixHigh, asserted := sixAsserted, conditioning := true }

theorem test_pinWithoutPulse :
    (after (.pinChange 5 true 0) (inMode .run)).channel 5 = resetChannel ∧
      ((after (.pinChange 5 false 0) (inMode .run)).channel 5) = { resetChannel with pinHigh := false } ∧
      ((after (.pinChange 6 true 0) (gated .run resetChannel false false)).channel 6).pinHigh = true ∧
      ((after (.pinChange 5 false 19999) (gated .run { countChannel .counting with edgeCounted := true } true false)).channel
        5).tally = 5016 := by decide +kernel

/-- Step 8 of 3.7: a PULSE record due to a full list replaces its newest PULSE record; and the 20 ms bound. -/
def fullList : List Capture := [.pulse 892 5004, .boundary 900 5004, .resume 930 5006 970 5009, .pulse 1040 5013]

theorem test_pulseToFullList :
    (after (.pinChange 5 false 20000) { gated .run { countChannel .counting with phase := 3, list := fullList, edgeCounted := true }
        true false with time := clock 1085 0 0 }).channel 5 =
      { countChannel .counting with
        phase := 0
        tally := 5017
        overflow := true
        pinHigh := false
        edgeCounted := true
        list := [.pulse 892 5004, .boundary 900 5004, .resume 930 5006 970 5009, .pulse 1085 5017] } := by decide +kernel

theorem test_pulseStates :
    ((after (.pinChange 5 false 0) (gated .run (countChannel .gated) true true)).channel 5).tally = 5017 ∧
      ((after (.pinChange 5 false 0) (gated .run (countChannel .gatePending) true true)).channel 5).phase = 1 ∧
      ((after (.pinChange 5 false 0) (gated .setup { countChannel .counting with phase := 3 } true true)).channel 5).list
        = [] := by decide +kernel

/-- Steps 12, 16 and 17 of 3.7, and a list with room. -/
theorem test_fullListRules :
    postTo [.pulse 1 1] (.pulse 2 2) = [.pulse 1 1, .pulse 2 2] ∧
      postTo fullList (.resume 1110 5018 1140 5019) =
        [.pulse 892 5004, .boundary 900 5004, .resume 930 5006 970 5009, .resume 1110 5018 1140 5019] ∧
      postTo [.pulse 892 5004, .boundary 900 5004, .resume 930 5006 970 5009, .resume 1110 5018 1140 5019]
          (.resume 1180 5020 1220 5021) =
        [.pulse 892 5004, .boundary 900 5004, .resume 930 5006 970 5009, .resume 1110 5018 1220 5021] ∧
      postTo [.pulse 1 1, .pulse 2 2, .pulse 3 3, .resume 4 4 5 5] (.pulse 6 6) =
        [.pulse 1 1, .pulse 2 2, .pulse 3 3, .resume 4 4 5 5] := by decide

theorem test_statusLevelAsserts :
    (after (.statusLevelChange 6) (gated .run (countChannel .counting) false false)).channel 5 =
        { countChannel .counting with state := .gated, gateRecord := some (0, 5016) } ∧
      ((after (.statusLevelChange 6) (gated .run { countChannel .counting with boundaryTiming := true } false false)).channel
        5).state = .gatePending ∧
      ((after (.statusLevelChange 6) (gated .run (countChannel .releaseWait) false false)).channel 5).state = .gated ∧
      ((after (.statusLevelChange 5) (gated .run (countChannel .counting) false false)).channel 6).asserted = false := by
  decide +kernel

theorem test_statusLevelReleases :
    (after (.statusLevelChange 6) (gated .run { countChannel .gated with gateRecord := some (3, 5) } true true)).channel 5 =
        { countChannel .counting with list := [.resume 3 5 0 5016] } ∧
      ((after (.statusLevelChange 6) (gated .run (countChannel .gatePending) true true)).channel 5).state = .counting ∧
      ((after (.statusLevelChange 6) (gated .run { countChannel .gated with manualRestart := true } true true)).channel
        5).state = .releaseWait := by decide +kernel

/-- A hold line on channel 6 reaches a COLLECTING record. -/
theorem test_statusLevelOutsideRun :
    (after (.statusLevelChange 6) (gated .setup { countChannel .gated with gateRecord := some (3, 5) } true true)).channel 5 =
        countChannel .counting ∧
      (after (.statusLevelChange 6) (gated .run { countChannel .gated with gateRecord := some (3, 5), softGate := true } true
        true)).channel 5 = { countChannel .gated with gateRecord := some (3, 5), softGate := true } ∧
      (after (.statusLevelChange 6) (gated .run { countChannel .gated with gateRecord := some (3, 5), list := fullList } true
        true)).attn.latched = 0x30 := by decide +kernel

theorem test_statusLevelHolds :
    ((after (.statusLevelChange 6) ((gated .run resetChannel false false).putZone 2 { zoneIn .clear with
        entry := ⟨1, { settings with holdLine := 6 }⟩, record := some (recordIn .collecting 0 []) })).zone 2).record =
      some { recordIn .collecting 0 [] with held := true } := by decide +kernel

theorem test_boundaryChannels :
    (after (.secondTick [] .whole) { gated .run { countChannel .gatePending with list := fullList } true true with
        time := clock 899 0 0 }).channel 5 =
      { countChannel .gated with
        gateRecord := some (900, 5016)
        overflow := true
        list := [.pulse 892 5004, .boundary 900 5004, .resume 930 5006 970 5009, .boundary 900 5016] } := by decide +kernel

/-- A pulse of the boundary's second falls before the BOUNDARY record or after it. -/
theorem test_pulseAtBoundary :
    let s := { gated .run { countChannel .counting with phase := 3 } true false with time := clock 899 0 0 }
    ((after (.secondTick [] .rest) (after (.pinChange 5 false 20000) (after (.secondTick [] .start) s))).channel 5).list =
        [.pulse 900 5017, .boundary 900 5017] ∧
      ((after (.secondTick [] .rest) (after (.pinChange 5 false 20000)
        (after (.secondTick [.channel 5] .start) s))).channel 5).list = [.boundary 900 5016, .pulse 900 5017] ∧
      ((after (.secondTick [.channel 4] .start) s).channel 5).list = [] := by decide +kernel

theorem test_setChannel :
    channelItem 5 1 4 6 0 1 = none ∧
      (after (.setChannel 1 5 1 4 6 0 1) (gated .setup resetChannel true false)).channel 5 =
        { countChannel .counting with tally := 0, manualRestart := true } ∧
      ask (.setChannel 1 5 1 4 6 0 1) (gated .setup resetChannel true true) = some (.ok, [4]) ∧
      ask (.setChannel 1 16 1 4 6 0 1) (inMode .setup) = refused .range 0 ∧
      ask (.setChannel 1 5 1 4 5 0 1) (inMode .setup) = refused .range 3 ∧
      ask (.setChannel 1 6 2 1 0xFF 0 0) (gated .setup resetChannel true true) = some (.ok, [1]) ∧
      ask (.setChannel 1 6 0 1 0xFF 0 0) (gated .setup resetChannel true true) = some (.ok, [0]) ∧
      (after (.setChannel 1 6 0 1 0xFF 0 0) (gated .setup { countChannel .gated with gateRecord := some (3, 5) } true
        true)).channel 5 = countChannel .counting ∧
      ask (.setChannel 1 5 1 4 6 0 1) (inMode .run) = refused .wrongState 0 := by decide +kernel

theorem test_gateChannelSet :
    ask (.gateChannelSet 1 5 0) (gated .run (countChannel .counting) true false) = some (.ok, [4, 1]) ∧
      ask (.gateChannelSet 1 5 0) (gated .run { countChannel .counting with boundaryTiming := true } true false) =
        some (.ok, [3, 1]) ∧
      ask (.gateChannelSet 1 5 0) (gated .run (countChannel .gated) true true) = some (.ok, [4, 1]) ∧
      ask (.gateChannelSet 1 5 2) (gated .run (countChannel .gated) true true) = refused .range 1 ∧
      ask (.gateChannelSet 1 16 0) (inMode .run) = refused .range 0 ∧
      ask (.gateChannelSet 1 15 0) (inMode .run) = refused .wrongState 0 ∧
      ask (.gateChannelSet 1 5 0) (inMode .starting) = refused .wrongState 0 := by decide +kernel

theorem test_gateChannelRelease :
    (after (.gateChannelRelease 1 5) (gated .run { countChannel .releaseWait with gateRecord := some (0, 7), softGate := true }
        true false)).channel 5 = { countChannel .counting with list := [.resume 0 7 0 5016] } ∧
      ask (.gateChannelRelease 1 5) (gated .setup { countChannel .gated with gateRecord := some (0, 7), softGate := true }
        true false) = some (.ok, [2, 0]) ∧
      ask (.gateChannelRelease 1 5) (gated .run (countChannel .gatePending) true false) = some (.ok, [2, 0]) ∧
      ask (.gateChannelRelease 1 5) (gated .run (countChannel .counting) true false) = some (.ok, [2, 0]) ∧
      ask (.gateChannelRelease 1 5) (gated .run (countChannel .gated) true true) = refused .wrongState 0 := by
  decide +kernel

/-! ## Stage and meters -/

/-- A pending binding for slot k. -/
def pendingFor (k : Nat) : PendingBinding := ⟨Fin.ofNat 128 k, remote (BitVec.ofNat 32 (k + 1)) 3⟩

/-- A stage of n pending bindings for slots 0 to n − 1. -/
def staged (n : Nat) (m : Mode) (pending : Bool) : State :=
  { inMode m with stage := { commitPending := pending, due := false, bindings := (List.range n).map pendingFor } }

theorem test_stageMeter :
    bindingItem (remote 9 47) = none ∧ bindingItem (pulseOn 15 9 3) = none ∧
      (after (.stageMeter 1 127 { pulseOn 15 9 3 with digits := 9, zone2 := 8 }) (inMode .run)).stage.bindings =
        [⟨127, pulseOn 15 9 3⟩] ∧
      (after (.stageMeter 1 0 { remote 0 99 with source := 0 }) (staged 8 .run false)).stage.bindings.head? =
        some ⟨0, clearedBinding⟩ ∧
      ask (.stageMeter 1 8 (remote 9 3)) (staged 8 .run false) = refused .stageFull 0 ∧
      ask (.stageMeter 1 7 (remote 9 3)) (staged 8 .run false) = some (.ok, [8]) ∧
      ask (.stageMeter 1 7 (remote 9 48)) (staged 8 .run false) = refused .range 17 ∧
      ask (.stageMeter 1 128 (remote 9 3)) (staged 8 .run false) = refused .range 0 ∧
      ask (.stageMeter 1 7 (remote 9 3)) (staged 8 .run true) = refused .stageLocked 0 ∧
      ask (.stageMeter 1 7 (remote 9 3)) (staged 0 .starting false) = refused .wrongState 0 := by decide +kernel

theorem test_discardStage :
    ask (.discardStage 1) (staged 8 .run false) = some (.ok, [8]) ∧
      (after (.discardStage 1) (staged 8 .run false)).stage = { bindings := [], commitPending := false, due := false } ∧
      ask (.discardStage 1) (staged 8 .run true) = refused .stageLocked 0 ∧
      ask (.discardStage 1) (staged 8 .starting false) = refused .wrongState 0 := by decide +kernel

/-- One pending binding for slot 0 and zone 3 configured. -/
def committable (m : Mode) (c : Condition) : State := (staged 1 m false).putZone 3 (zoneIn c)

theorem test_commitStage :
    ask (.commitStage 1) (committable .setup .clear) = some (.ok, [1]) ∧
      ((after (.commitStage 1) (committable .setup .clear)).meter 0) = slotIn .awaiting (remote 1 3) none ∧
      ask (.commitStage 1) (committable .run .clear) = some (.accepted, [1]) ∧
      (after (.commitStage 1) (committable .run .clear)).stage.commitPending = true := by decide +kernel

theorem test_commitStageRefused :
    ask (.commitStage 1) (committable .run .fault) = some (.invalid, [1, 2, 0, 1, 3]) ∧
      ask (.commitStage 1) (inMode .run) = some (.ok, [0]) ∧
      ask (.commitStage 1) (staged 1 .run true) = refused .stageLocked 0 ∧
      ask (.commitStage 1) (staged 1 .starting false) = refused .wrongState 0 := by decide +kernel

/-- The states of the hypotheses of the validation law: every entry matches, no mark is set. -/
theorem test_validationHypotheses :
    (∀ e, (committable .setup .clear).entryMatches e = true) ∧ (∀ z, ((committable .setup .clear).zone z).mark = false) := by
  refine ⟨fun e => ?_, fun z => ?_⟩
  · cases e with
    | zone z =>
      simp only [State.entryMatches, committable, State.zone_putZone]
      split
      · simp [zoneIn]
      · simp [State.zone, staged, inMode, State.reset, resetZone]
    | meter m => simp [State.entryMatches, committable, State.meter, State.putZone, staged, inMode, State.reset, resetMeter]
  · simp only [committable, State.zone_putZone]
    split
    · rfl
    · simp [State.zone, staged, inMode, State.reset, resetZone]

/-- Tests 2 to 4 of R27 fail by one binding each. -/
theorem test_validationFailures :
    ((staged 1 .setup false).putZone 3 (zoneIn .clear)).testTag ⟨5, remote 1 3⟩ =
        some { test := 3, slot := 5, kindB := 2, numberB := 0 } ∧
      (inMode .setup).testChannel ⟨5, pulseOn 15 1 3⟩ = some { test := 4, slot := 5, kindB := 3, numberB := 15 } ∧
      (staged 1 .setup false).testMembers 0 [3] = none := by decide +kernel

theorem test_applyRows :
    (slotIn .live (remote 1 3) (some ⟨5, 6⟩)).apply clearedBinding = resetMeter ∧
      (slotIn .live (remote 1 3) (some ⟨5, 6⟩)).apply (remote 1 4) = slotIn .live (remote 1 4) (some ⟨5, 6⟩) ∧
      (slotIn .live (remote 1 3) (some ⟨5, 6⟩)).apply (remote 2 3) = slotIn .awaiting (remote 2 3) none ∧
      (slotIn .live (pulseOn 2 1 3) (some ⟨5, 6⟩)).apply (pulseOn 3 1 3) = slotIn .awaiting (pulseOn 3 1 3) none ∧
      (slotIn .faulted (remote 1 3) none).apply (remote 1 3) = slotIn .awaiting (remote 1 3) none ∧
      resetMeter.apply clearedBinding = resetMeter := by decide +kernel

/-- A pending commit at a boundary: applied between items, due while the intake holds one; and the mark and the fresh entry
that it gives a COLLECTING record of zone 3, none to a WAITING one. -/
def committing (st : RecordState) (hand : IntakeHand) : State :=
  { ((running 899 0 0).putZone 3 { zoneIn .clear with record := some (recordIn st 0 []) }) with
    stage := { bindings := [⟨0, remote 1 3⟩], commitPending := true, due := false }
    intake := { State.reset.intake with hand := hand } }

theorem test_commitAtBoundary :
    ((after (.secondTick [] .whole) (committing .collecting .idle)).zone 3).record =
        some { recordIn .collecting 0 [⟨0, .inward, none, 0⟩] with changed := true } ∧
      ((after (.secondTick [] .whole) (committing .waiting .idle)).zone 3).record =
        some (recordIn .waiting 0 [⟨0, .inward, none, 0⟩]) ∧
      (after (.secondTick [] .whole) (committing .waiting .idle)).stage = ⟨[], false, false⟩ ∧
      (after (.secondTick [] .whole) (committing .waiting .link)).stage = ⟨[⟨0, remote 1 3⟩], true, true⟩ ∧
      (after (.secondTick [.verify] .start) (committing .waiting .idle)).stage.commitPending = true := by decide +kernel

/-- RUN at part time 1000 with slot 20 in a state. -/
def withSlot (x : MeterSlot) : State := (running 1000 0 0).putMeter 20 x

theorem test_meterRelease :
    (after (.meterRelease 1 20) (withSlot (slotIn .doubtful (remote 1 3) (some ⟨5, 6⟩)))).meter 20 =
        slotIn .awaiting (remote 1 3) none ∧
      ask (.meterRelease 1 20) (withSlot (slotIn .live (remote 1 3) none)) = refused .wrongState 0 ∧
      ask (.meterRelease 1 128) (inMode .setup) = refused .range 0 ∧
      ask (.meterRelease 1 127) (inMode .starting) = refused .wrongState 0 ∧
      (after (.meterRelease 1 20) { withSlot (slotIn .doubtful (remote 1 3) none) with
        intake := { State.reset.intake with hand := .served 3 (some 20) } }).intake.releaseWaiting = some 20 := by
  decide +kernel

/-! ## Intake -/

/-- RUN at 02:21:10 of night 19 801 (4.8), slot 20 AWAITING or LIVE on zone 4, whose record is COLLECTING. -/
def cascade (st : SlotState) (p : Option Point) (reach : Option Nat) : State :=
  ((running 1710814870 0 0).putMeter 20 (slotIn st { remote 7 4 with dir1 := 1 } p)).putZone 4
    { zoneIn .clear with record := some (recordIn .collecting 19801 [⟨20, .outward, reach, 0⟩]) }

/-- The same with a READING in hand at the intake. -/
def withJob (s : State) (todo : List Pair) : State :=
  { s with intake := { s.intake with hand := .reading { slot := 20, batch := true, todo := todo, outcomes := [], ended := none } } }

/-- The bins and members of zone 4's record after a command. -/
def zone4 (c : Instr) (s : State) : Option (List Int × List Member) :=
  ((after c s).zone 4).record.map fun r => (r.bins.map (·.volume), r.members)

/-- Pair 1 of step 6 of 4.8: a first reading gaps bin 0. -/
theorem test_firstPair :
    zone4 .readingPair (withJob (cascade .awaiting none none) [⟨1710813900, 998200⟩]) =
        some ([0, 0, 0, 0, 0, 0, 0, 0], [⟨20, .outward, some 1710813900, 1⟩]) ∧
      (after .readingPair (withJob (cascade .awaiting none none) [⟨1710813900, 998200⟩])).meter 20 =
        slotIn .live { remote 7 4 with dir1 := 1 } (some ⟨1710813900, 998200⟩) := by decide +kernel

/-- Pair 2: the register turns over; shares 295 333 and 147 667. -/
theorem test_secondPair :
    zone4 .readingPair (withJob (cascade .live (some ⟨1710813900, 998200⟩) (some 1710813900)) [⟨1710814800, 42500⟩]) =
      some ([-295333, -147667, 0, 0, 0, 0, 0, 0], [⟨20, .outward, some 1710814800, 0⟩]) := by decide +kernel

/-- The outcome of the last pair, or the status that ended the request. -/
def pairEnd (s : State) : Option (PairOutcome ⊕ Status) :=
  match (after .readingPair s).intake.hand with
  | .reading j =>
    match j.outcomes.getLast?, j.ended with
    | some o, _ => some (.inl o)
    | none, some e => some (.inr e.1)
    | none, none => none
  | _ => none

/-- Pair 3 of step 6 is ORDER; and the other outcomes and refusals of a pair. -/
theorem test_pairOutcomes :
    pairEnd (withJob (cascade .live (some ⟨1710814800, 42500⟩) none) [⟨1710814620, 40000⟩]) = some (.inr .order) ∧
      pairEnd (withJob (cascade .live (some ⟨1710814800, 42500⟩) none) [⟨1710814800, 42501⟩]) = some (.inr .conflict) ∧
      pairEnd (withJob (cascade .live (some ⟨1710814800, 42500⟩) none) [⟨1710814800, 42500⟩]) = some (.inl .duplicate) ∧
      pairEnd (withJob (cascade .live none none) [⟨0, 1000000⟩]) = some (.inr .range) ∧
      pairEnd (withJob (cascade .live none none) [⟨1710815171, 1⟩]) = some (.inr .tooNew) ∧
      pairEnd (withJob (cascade .faulted none none) [⟨0, 1⟩]) = some (.inr .faulted) ∧
      pairEnd (withJob (cascade .doubtful (some ⟨1710813900, 1⟩) none) [⟨1710814800, 2⟩]) = some (.inl .doubtful) ∧
      pairEnd (withJob (cascade .live (some ⟨1710807599, 1⟩) none) [⟨1710814800, 2⟩]) = some (.inl .withheld) ∧
      pairEnd (withJob (cascade .live (some ⟨1710807600, 1⟩) none) [⟨1710814800, 2⟩]) = some (.inl .applied) ∧
      pairEnd (withJob (cascade .live (some ⟨1710814799, 1⟩) none) [⟨1710814800, 2003⟩]) = some (.inl .implausible) := by
  decide +kernel

/-- A third implausible span makes the slot DOUBTFUL with a finding. -/
theorem test_thirdDoubt :
    ((after .readingPair (withJob ((cascade .live none none).modMeter 20 fun x =>
        { x with doubt := 2, lastPoint := some ⟨1710814799, 1⟩ }) [⟨1710814800, 2003⟩])).meter 20).state = .doubtful ∧
      (after .readingPair (withJob ((cascade .live none none).modMeter 20 fun x =>
        { x with doubt := 2, lastPoint := some ⟨1710814799, 1⟩ }) [⟨1710814800, 2003⟩])).findings =
        [⟨.meterDoubt, .meter 20, none, none, none⟩] := by decide +kernel

/-- How a whole request ended at its tests: none while pairs are left to take. -/
def requestEnd (c : Instr) (s : State) : Option (Option (Status × Nat)) :=
  match (after c s).intake.hand with
  | .reading j => some j.ended
  | _ => none

theorem test_requestTests :
    requestEnd (.reading 1 20 7 ⟨1, 2⟩) (cascade .live none none) = some none ∧
      requestEnd (.reading 1 20 8 ⟨1, 2⟩) (cascade .live none none) = some (some (.tagMismatch, 0)) ∧
      requestEnd (.reading 1 20 7 ⟨1, 2⟩) (cascade .unbound none none) = some (some (.noSuch, 0)) ∧
      requestEnd (.reading 1 20 7 ⟨1, 2⟩) (cascade .faulted none none) = some (some (.faulted, 0)) ∧
      requestEnd (.reading 1 20 7 ⟨1, 2⟩) ((cascade .live none none).putMeter 20 (slotIn .live (pulseOn 3 7 4) none)) =
        some (some (.source, 0)) := by decide +kernel

theorem test_requestBounds :
    requestEnd (.reading 1 128 7 ⟨1, 2⟩) (cascade .live none none) = some (some (.range, 0)) ∧
      requestEnd (.readingBatch 1 20 7 []) (cascade .live none none) = some (some (.range, 5)) ∧
      requestEnd (.readingBatch 1 20 7 (List.replicate 17 ⟨1, 2⟩)) (cascade .live none none) = some (some (.range, 5)) ∧
      requestEnd (.readingBatch 1 20 7 (List.replicate 16 ⟨1, 2⟩)) (cascade .live none none) = some none ∧
      requestEnd (.reading 1 20 7 ⟨1, 2⟩) (inMode .setup) = some (some (.wrongState, 0)) := by decide +kernel

/-- An entry that mismatches is faulted by the reading that finds it. -/
theorem test_readingFaultsSlot :
    requestEnd (.reading 1 20 7 ⟨1, 2⟩) ((cascade .live none none).modMeter 20 fun x => { x with code := 0 }) =
        some (some (.faulted, 0)) ∧
      ((after (.reading 1 20 7 ⟨1, 2⟩) ((cascade .live none none).modMeter 20 fun x => { x with code := 0 })).meter 20).state
        = .faulted := by decide +kernel

/-- Channel 2 with one record waiting and slot 11 bound to it (4.8). -/
def withRecord (r : Capture) (x : MeterSlot) : State :=
  ((running 1710813867 0 0).putChannel 2 { countChannel .counting with list := [r] }).putMeter 11 x

theorem test_captureRecord :
    ((after (.captureRecord 2) (withRecord (.pulse 1710813867 80130) (slotIn .live (pulseOn 2 5 4) (some ⟨1710813600, 80114⟩)))).meter
        11).lastPoint = some ⟨1710813867, 80130⟩ ∧
      (withRecord (.pulse 1710813867 80130) (slotIn .live (pulseOn 2 5 4) none)).claimants 2 = [11] ∧
      (after (.captureRecord 2) (withRecord (.pulse 1 1) resetMeter)).intake.hand = .served 2 none ∧
      ((after (.resumeRecord 2) (withRecord (.resume 10 20 30 40) (slotIn .awaiting (pulseOn 2 5 4) none))).meter 11).lastPoint
        = some ⟨30, 40⟩ := by decide +kernel

/-- A served record ends; the ring goes on from channel 2 to channel 3. -/
theorem test_itemEnd :
    (after (.intakeItemEnd [.commit]) (((inMode .run).putChannel 3 { countChannel .counting with list := [.pulse 1 1] }).modIntake
        fun i => { i with hand := .served 2 none, pointer := 2 })).intake =
        { State.reset.intake with hand := .chosen 3 (.pulse 1 1) none, pointer := 3 } ∧
      (after (.intakeItemEnd []) ((inMode .run).modIntake fun i => { i with hand := .served 2 none, pointer := 2 })).intake =
        { State.reset.intake with pointer := 2 } := by decide +kernel

/-- A READING-BATCH that has ended ORDER after two pairs (step 6 of 4.8). -/
def endedBatch : State :=
  { cascade .live (some ⟨1710814800, 42500⟩) none with
    intake := { State.reset.intake with hand := .reading ⟨20, true, [], [.first, .applied], some (.order, 0)⟩ }
    link := { State.reset.link with hand := some ⟨⟨1, 0x41, []⟩, .working⟩ } }

theorem test_readingReply :
    reply (after (.intakeItemEnd []) endedBatch) =
      some (.order, [0, 0, 0, 0, 0, 2, 0, 1, 2, 0, 1, 0x65, 0xF8, 0xF6, 0x50, 0, 0, 0xA6, 0x04]) := by decide +kernel

theorem test_shares : resetGrid.shares 19801 443000 1710813900 1710814800 = [295333, 147667, 0, 0, 0, 0, 0, 0] ∧
    resetGrid.shares 19801 3741300 1710812700 1710814020 = [1190413, 0, 0, 0, 0, 0, 0, 0] := by decide +kernel

/-- The same with zone 4's record CLOSING. -/
def closed (p : Point) : State :=
  (cascade .live (some p) none).putZone 4 { zoneIn .clear with record := some (recordIn .closing 19801 []) }

theorem test_closingTakesNothing :
    (((closed ⟨1710813900, 1⟩).takePoint ((closed ⟨1710813900, 1⟩).readSlot 20) ⟨1710814800, 2⟩).1.zone 4).record =
        some (recordIn .closing 19801 []) ∧
      (closed ⟨1710813900, 1⟩).readSlot 20 = ⟨20, .live, []⟩ := by decide +kernel

/-- A span that ends in a CLOSING record's window is LATE, and so is one that starts in an earlier night's; the span from the
end of the night before to the window's start is not. -/
theorem test_late :
    pairEnd (withJob (closed ⟨1710813900, 1⟩) [⟨1710814800, 2⟩]) = some (.inl .late) ∧
      pairEnd (withJob (cascade .live (some ⟨1710734399, 1⟩) none) [⟨1710734400, 2⟩]) = some (.inl .late) ∧
      pairEnd (withJob (cascade .live (some ⟨1710734400, 1⟩) none) [⟨1710734401, 2⟩]) = some (.inl .applied) := by
  decide +kernel

/-- A span after the hole [02:00:00, 02:20:00) gaps bins 0 and 1 and adds its share to bin 1. -/
theorem test_hole :
    zone4 .readingPair (withJob (cascade .live (some ⟨1710814800, 1⟩) none) [⟨1710814860, 3⟩]) =
      some ([0, -20, 0, 0, 0, 0, 0, 0], [⟨20, .outward, some 1710814860, 3⟩]) := by decide +kernel

/-- A READING stays the link's waiting work while the intake is busy, and is taken when its turn has come. -/
theorem test_readingWaits :
    (after (.reading 1 20 7 ⟨1, 2⟩) ((cascade .live none none).modIntake fun i => { i with hand := .served 2 none })) =
        { cascade .live none none with
          intake := { State.reset.intake with hand := .served 2 none }
          link := { State.reset.link with hand := some ⟨⟨1, 0x40, [20, 0, 0, 0, 7, 0, 0, 0, 1, 0, 0, 0, 2]⟩, .waiting⟩ } } ∧
      requestEnd (.reading 1 20 7 ⟨1, 2⟩) ((cascade .live none none).modIntake fun i => { i with hand := .link }) =
        some none := by decide +kernel

/-- Slot 11 of channel 2, a member of zone 4, whose record is COLLECTING in night 19 801. -/
def pulsed (st : SlotState) (p : Option Point) (hand : IntakeHand) : State :=
  { (withRecord (.pulse 1710813867 80130) (slotIn st (pulseOn 2 5 4) p)).putZone 4
      { zoneIn .clear with record := some (recordIn .collecting 19801 [⟨11, .inward, some 1710813600, 0⟩]) } with
    intake := { State.reset.intake with hand := hand, pointer := 2 } }

/-- A record taken at the end of the item before is served under the slot's state as read then, and a PULSE record under its
zones' records as they stand: a slot FAULTED since takes the point and stays FAULTED, and a record not read then takes its
share. -/
theorem test_takenRecord :
    zone4 (.captureRecord 2) (pulsed .faulted (some ⟨1710813600, 80128⟩)
        (.chosen 2 (.pulse 1710813867 80130) (some ⟨11, .live, [(4, 19801)]⟩))) =
        some ([20, 0, 0, 0, 0, 0, 0, 0], [⟨11, .inward, some 1710813867, 0⟩]) ∧
      ((after (.captureRecord 2) (pulsed .faulted (some ⟨1710813600, 80128⟩)
        (.chosen 2 (.pulse 1710813867 80130) (some ⟨11, .live, [(4, 19801)]⟩)))).meter 11).state = .faulted ∧
      zone4 (.captureRecord 2) (pulsed .live (some ⟨1710813600, 80128⟩)
        (.chosen 2 (.pulse 1710813867 80130) (some ⟨11, .live, []⟩))) =
        some ([20, 0, 0, 0, 0, 0, 0, 0], [⟨11, .inward, some 1710813867, 0⟩]) ∧
      (after (.captureRecord 2) (pulsed .live none (.chosen 2 (.pulse 1 1) none))).intake.hand = .served 2 none := by
  decide +kernel

/-- `pulsed` with a last point at 02:00:00, zone 4's record having become CLOSING. -/
def pulsedClosing (hand : IntakeHand) : State :=
  (pulsed .live (some ⟨1710813600, 80128⟩) hand).putZone 4
    { zoneIn .clear with record := some (recordIn .closing 19801 [⟨11, .inward, some 1710813600, 0⟩]) }

/-- A PULSE or BOUNDARY record taken before its zone's record became CLOSING adds nothing to it, and the last point advances
(R70, R71, R97); a RESUME record serves the records it read when it was taken, and no other (R62). -/
theorem test_closingMeanwhile :
    zone4 (.captureRecord 2) (pulsedClosing
        (.chosen 2 (.pulse 1710813867 80130) (some ⟨11, .live, [(4, 19801)]⟩))) =
        some ([0, 0, 0, 0, 0, 0, 0, 0], [⟨11, .inward, some 1710813600, 0⟩]) ∧
      ((after (.captureRecord 2) (pulsedClosing
        (.chosen 2 (.boundary 1710813867 80130) (some ⟨11, .live, [(4, 19801)]⟩)))).meter 11).lastPoint =
        some ⟨1710813867, 80130⟩ ∧
      zone4 (.resumeRecord 2) (pulsedClosing
        (.chosen 2 (.resume 1710813600 80129 1710814600 80130) (some ⟨11, .live, [(4, 19801)]⟩))) =
        some ([10, 0, 0, 0, 0, 0, 0, 0], [⟨11, .inward, some 1710814600, 3⟩]) ∧
      zone4 (.resumeRecord 2) (pulsed .live (some ⟨1710813600, 80128⟩)
        (.chosen 2 (.resume 1710813600 80129 1710814600 80130) (some ⟨11, .live, []⟩))) =
        some ([0, 0, 0, 0, 0, 0, 0, 0], [⟨11, .inward, some 1710813600, 0⟩]) := by decide +kernel

/-- At the end of an item the oldest record of the next channel leaves its list with its slot read. -/
theorem test_itemEndReads :
    (after (.intakeItemEnd []) (pulsed .live none (.served 2 none))).intake.hand =
        .chosen 2 (.pulse 1710813867 80130) (some ⟨11, .live, [(4, 19801)]⟩) ∧
      ((after (.intakeItemEnd []) (pulsed .live none (.served 2 none))).channel 2).list = [] := by decide +kernel

/-- Re-anchoring, a doubtful span, an implausible one and one of no length, for a pulse point; and the two steps of RESUME. -/
theorem test_pulsePoints :
    zone4 (.captureRecord 2) (pulsed .live (some ⟨1710813868, 1⟩) .idle) =
        some ([0, 0, 0, 0, 0, 0, 0, 0], [⟨11, .inward, some 1710813867, 1⟩]) ∧
      zone4 (.captureRecord 2) (pulsed .doubtful (some ⟨1710813600, 1⟩) .idle) =
        some ([0, 0, 0, 0, 0, 0, 0, 0], [⟨11, .inward, some 1710813867, 1⟩]) ∧
      ((after (.captureRecord 2) (pulsed .live (some ⟨1710813866, 1⟩) .idle)).meter 11).doubt = 1 ∧
      zone4 (.captureRecord 2) (pulsed .live (some ⟨1710813867, 80129⟩) .idle) =
        some ([10, 0, 0, 0, 0, 0, 0, 0], [⟨11, .inward, some 1710813867, 1⟩]) ∧
      (after (.resumeRecord 2) (pulsed .live (some ⟨1710813600, 80128⟩) (.chosen 2
        (.resume 1710813600 80129 1710814600 80130) (some ⟨11, .live, [(4, 19801)]⟩)))).intake.touched = [4] := by
  decide +kernel

/-- The item in hand, which touched zone 4, whose member has reach at the window's end. -/
def ending (due : Bool) (release : Option SlotId) : State :=
  { ((inMode .run).putZone 4 { zoneIn .clear with
        record := some (recordIn .collecting 19801 [⟨20, .outward, some 1710820800, 0⟩]) }).putMeter 20
      (slotIn .doubtful { remote 7 4 with dir1 := 1 } none) with
    intake := ⟨.served 2 none, 2, [4], release⟩
    stage := { bindings := [⟨20, remote 7 4⟩], commitPending := due, due := due }
    link := { State.reset.link with hand := release.map fun _ => ⟨⟨1, 0x24, [20]⟩, .working⟩ } }

/-- Early close, the due commit before it or after it, and the waiting release. -/
theorem test_itemEndParts :
    ((after (.intakeItemEnd []) (ending false none)).zone 4).isClosing = true ∧
      ((after (.intakeItemEnd [.earlyClose]) (ending true none)).zone 4).record =
        some (recordIn .closing 19801 [⟨20, .outward, some 1710820800, 0⟩]) ∧
      ((after (.intakeItemEnd [.commit]) (ending true none)).zone 4).record =
        some { recordIn .collecting 19801 [⟨20, .inward, none, 0⟩] with changed := true } ∧
      (after (.intakeItemEnd [.commit]) (ending true none)).stage = ⟨[], false, false⟩ ∧
      ((after (.intakeItemEnd []) (ending false (some 20))).meter 20).state = .awaiting ∧
      reply (after (.intakeItemEnd []) (ending false (some 20))) = some (.ok, []) := by decide +kernel

/-! ## Pressure -/

/-- Zone 12 in RUN at 02:04:10 of night 19 802 with an open record (5.6). -/
def zone12 (z : Zone) : State := (running 1710900250 0 0).putZone 12 z

/-- Its record with one bin's pressure fields set. -/
def sampled (st : RecordState) (sum count : Nat) : Zone :=
  { zoneIn .clear with record := some { recordIn st 19802 [] with bins := ⟨0, sum, count⟩ :: List.replicate 7 ⟨0, 0, 0⟩ } }

theorem test_pressureAdded :
    ask (.pressure 1 12 1710900060 3901) (zone12 (sampled .collecting 0 0)) = some (.ok, [0, 0x4D, 0x5A, 0, 1, 0x0F, 0x3D]) ∧
      ask (.pressure 1 12 1710900060 25000) (zone12 (sampled .collecting 0 254)) =
        some (.ok, [0, 0x4D, 0x5A, 0, 255, 0x4E, 0x20]) ∧
      ask (.pressure 1 12 1710900060 3901) (zone12 (sampled .collecting 0 255)) = some (.ok, [1, 0x4D, 0x5A, 0, 255]) ∧
      ask (.pressure 1 12 1710899910 3930) (zone12 (sampled .collecting 0 0)) = some (.ok, [2]) ∧
      ask (.pressure 1 12 1710900060 3901) (zone12 (sampled .closing 0 0)) = refused .late 0 ∧
      ask (.pressure 1 12 1710813600 3901) (zone12 (sampled .collecting 0 0)) = refused .late 0 := by decide +kernel

theorem test_pressureRefused :
    ask (.pressure 1 12 1710900551 3901) (zone12 (sampled .collecting 0 0)) = refused .tooNew 0 ∧
      ask (.pressure 1 12 1710900550 3901) (zone12 (zoneIn .clear)) = refused .late 0 ∧
      ask (.pressure 1 12 1710899910 3901) (zone12 (zoneIn .clear)) = some (.ok, [2]) ∧
      ask (.pressure 1 12 1 3901) (zone12 (zoneIn .fault)) = refused .wrongState 0 ∧
      ask (.pressure 1 47 1 3901) (zone12 (zoneIn .clear)) = refused .noSuch 0 ∧
      ask (.pressure 1 48 1 3901) (zone12 (zoneIn .clear)) = refused .range 0 ∧
      ask (.pressure 1 12 1 3901) (inMode .setup) = refused .wrongState 0 := by decide +kernel

theorem test_pressureTable :
    (after (.setPressureTable 1 (Vector.replicate 17 0x0102)) (inMode .setup)).table = Vector.replicate 17 0x0102 ∧
      ask (.setPressureTable 1 (Vector.replicate 17 0x0102)) (inMode .run) =
        some (.wrongState, itemOnly 0 ++ (List.replicate 17 [0x40, 0x00]).flatten) ∧
      ask (.pressureTableQuery 1) (inMode .run) = some (.ok, (List.replicate 17 [0x40, 0x00]).flatten) := by decide +kernel

/-! ## Nights: the worked case of 6.6 -/

/-- The pressure response table N1 = 1 (R86): entry k is 8 192 + 1 024 × k. -/
def linearTable : Vector W16 17 := Vector.ofFn fun k => BitVec.ofNat 16 (8192 + 1024 * k.val)

/-- The bins of 6.6. -/
def bins66 : List Bin :=
  [⟨4620000, 11712, 3⟩, ⟨4590000, 0, 0⟩, ⟨4600000, 15590, 4⟩, ⟨4610000, 11700, 3⟩, ⟨4650000, 0, 0⟩,
   ⟨4700000, 20000, 1⟩, ⟨4800000, 0, 0⟩, ⟨4900000, 0, 0⟩]

/-- The record of 6.6: bin 6 is a gap of slot 32. -/
def record66 : NightRecord :=
  { recordIn .closing 19802 [⟨30, .inward, some 1710907200, 0⟩, ⟨31, .inward, some 1710907200, 0⟩,
      ⟨32, .outward, some 1710907200, 0x40⟩] with bins := bins66 }

/-- Zone 12 taken by the analyser, CLEAR, as in 7.6. -/
def analysis66 : Analysis := { zone := 12, settings := settings, faulted := [], deferredFault := false }

/-- RUN at 04:40:00 with zone 12's record CLOSING. -/
def night66 : State :=
  { (running 1710909600 0 0).putZone 12 { zoneIn .clear with record := some record66 } with table := linearTable }

theorem test_minimumHour : resetGrid.minimumHour record66 [] = some (0, 18420000) ∧
    resetGrid.completeBins record66 [] = [0, 1, 2, 3, 4, 5, 7] ∧ resetGrid.minimumHour record66 [30] = none := by
  decide +kernel

theorem test_meanPressure : resetGrid.meanPressure (bins66.take 4) = some 3900 ∧
    resetGrid.meanPressure (bins66.drop 4) = none := by decide +kernel

theorem test_uncorrected : resetGrid.pressureAnswer settings (bins66.drop 4) = .fewSamples ∧
    factorOf linearTable .fewSamples = 16384 ∧
    resetGrid.pressureAnswer { settings with correction := 0 } (bins66.take 4) = .switchOff ∧
    factorOf linearTable .switchOff = 16384 := by decide +kernel

theorem test_factor : resetGrid.pressureAnswer settings (bins66.take 4) = .corrected 3900 58814 6 23520 ∧
    factorOf linearTable (.corrected 3900 58814 6 23520) = 14703 ∧
    factorOf linearTable (.corrected 0 98304 16 0) = 24576 := by decide +kernel

theorem test_judge :
    night66.judge analysis66 record66 = .judged 7 18420000 0 (.corrected 3900 58814 6 23520) 14703 13837906 ∧
      night66.judge analysis66 { record66 with held := true } = .held ∧
      night66.judge analysis66 { record66 with changed := true } = .membershipChanged ∧
      night66.judge { analysis66 with faulted := [31] } record66 = .short 0 := by decide +kernel

/-- An MNF of −(balance tolerance) is judged; one below it is BALANCE. -/
theorem test_balance :
    night66.judge analysis66 { record66 with bins := List.replicate 8 ⟨-250000, 0, 0⟩ } =
        .judged 7 (-1000000) 0 .fewSamples 16384 0 ∧
      night66.judge analysis66 { record66 with bins := List.replicate 8 ⟨-250001, 0, 0⟩ } = .balance 7 (-1000004) 0 := by
  decide +kernel

theorem test_takeZone :
    (after (.analyserTakeZone none) night66).analyser.analysing = some analysis66 ∧
      (after (.analyserTakeZone (some 13)) night66).analyser.analysing = some analysis66 ∧
      (after (.analyserTakeZone (some 20)) { night66.putZone 20 (night66.zone 12) with
        analyser := ⟨none, [12, 20]⟩ }).analyser.analysing.map (·.zone) = some 20 ∧
      (after (.analyserTakeZone (some 20)) { night66.putZone 20 (night66.zone 12) with
        analyser := ⟨none, [20]⟩ }).analyser.analysing.map (·.zone) = some 12 ∧
      ((after (.analyserTakeZone none) (night66.modZone 12 fun z => { z with code := 0 })).zone 12).condition = .fault := by
  decide +kernel

/-- 7.6: the night is EXCEED, the zone WATCH with a WATCH finding, and the next night's record opens WAITING. -/
theorem test_analysisEnd :
    let t := after .nightAnalysisEnd { night66 with analyser := { analysing := some analysis66, raced := [] } }
    (t.zone 12).condition = .watch ∧
      t.findings = [⟨.watch, .zone 12, some 19802, some (13837906, 937906), none⟩] ∧
      (t.zone 12).record = some (recordIn .waiting 19803 []) ∧ t.attn.latched = 0xA1 := by decide +kernel

/-- An entry fault that waited: the night's finding first, then the fault's; the last of them lost to a queue of 31. -/
theorem test_analysisEndFaulted :
    let s := { night66 with analyser := { analysing := some { analysis66 with deferredFault := true }, raced := [] } }
    let t := after .nightAnalysisEnd s
    (t.zone 12).kept = .fault ∧ (t.zone 12).record = none ∧ t.findings.map (·.kind) = [.watch, .entryFault] ∧
      ((after .nightAnalysisEnd { s with findings := List.replicate 31 ⟨.burst, .zone 1, none, none, none⟩ }).zone 12).lost
        = true := by decide +kernel

/-- The leaving phase counts a zone once, however often it is analysed in it. -/
theorem test_leavingCountsZones :
    let s (zones : List ZoneId) := { night66 with
      analyser := { analysing := some analysis66, raced := [] }
      ctl := { mode := .run, leaving := some ⟨0, zones⟩, restarting := false } }
    (after .nightAnalysisEnd (s [3])).ctl.leaving = some ⟨0, [12, 3]⟩ ∧
      (after .nightAnalysisEnd (s [12])).ctl.leaving = some ⟨0, [12]⟩ := by decide +kernel

theorem test_earlyClose :
    resetGrid.closesEarly { record66 with state := .draining } = true ∧ resetGrid.closesEarly record66 = false ∧
      resetGrid.closesEarly (recordIn .draining 19802 []) = false ∧
      resetGrid.closesEarly (recordIn .draining 19802 [⟨30, .inward, some 1710907199, 0⟩]) = false := by decide +kernel

/-! ## Zones: the worked cases of 7.6, 7.7 and 8.9 -/

theorem test_verdicts :
    (zoneIn .clear).verdict settings 13837906 = .exceed ∧ (zoneIn .clear).verdict settings 13500000 = .normal ∧
      (zoneIn .clear).verdict settings 13500001 = .exceed ∧ (zoneIn .clear).verdict settings 17900000 = .burst ∧
      (zoneIn .settling).verdict settings 17900000 = .settling := by decide

/-- Zone 12 after nights 19 803 and 19 804 of 7.6. -/
theorem test_shiftedUpdates :
    (zoneIn .watch).shiftedUpdate settings 13000000 =
        { zoneIn .watch with baseline := 12912500, spread := 275000 } ∧
      ({ zoneIn .watch with baseline := 12912500, spread := 275000 }).shiftedUpdate settings 12905000 =
        { zoneIn .watch with baseline := 12911562, spread := 241562 } := by decide +kernel

/-- Zone 20 after nights 1, 2 and 4 of 7.7. -/
def learning (n : Nat) (b sp : Int) : Zone := { zoneIn .settling with settling := n, baseline := b, spread := sp }

theorem test_settlingUpdates :
    (learning 0 0 0).settlingUpdate { settings with nSettle := 3 } 10000000 = learning 1 10000000 0 ∧
      (learning 1 10000000 0).settlingUpdate { settings with nSettle := 3 } 10600000 = learning 2 10300000 300000 ∧
      (learning 2 10300000 300000).settlingUpdate { settings with nSettle := 3 } 10150001 =
        { learning 3 10250001 250000 with kept := .clear } := by decide +kernel

/-- The end of settling makes its SETTLED finding; BALANCE makes its own, and HELD none. -/
theorem test_works :
    ((learning 6 10000000 0).work settings 5 9 (.judged 8 5 0 .switchOff 16384 10000000)).2 =
        [⟨.settled, .zone 5, some 9, some (10000000, 0), none⟩] ∧
      ((learning 5 10000000 0).work settings 5 9 (.judged 8 5 0 .switchOff 16384 10000000)).2 = [] ∧
      (zoneIn .confirmed).work settings 5 9 (.balance 8 (-9) 0) =
        ({ zoneIn .confirmed with history := [⟨9, .balance, none, none, some (-9), false⟩] },
          [⟨.balance, .zone 5, some 9, none, some (-9)⟩]) ∧
      (zoneIn .settling).work settings 5 9 .held =
        ({ zoneIn .settling with history := [⟨9, .held, none, none, none, false⟩] }, []) := by decide +kernel

/-- A zone with a history of outcomes from a night downwards. -/
def past (c : Condition) (run episodes night : Nat) (outcomes : List NightOutcome) : Zone :=
  { zoneIn c with
    run := run
    episodes := episodes
    history := outcomes.zipIdx.map fun p => ⟨night - p.2, p.1, none, none, none, false⟩ }

/-- Condition, run, episodes and finding kinds after a judged night of the worked case's settings. -/
def moved (z : Zone) (night : Nat) (c : Int) : Condition × Nat × Nat × List FindingKind :=
  let r := z.workJudged settings 5 night c c false
  (r.1.condition, r.1.run, r.1.episodes, r.2.map (·.kind))

/-- Steps 1, 3, 4, 6, 9 and 10 of 8.9. -/
theorem test_tenNights :
    moved (past .clear 3 0 19809 [.normal, .normal, .normal]) 19810 13837906 = (.watch, 0, 0, [.watch]) ∧
      moved (past .watch 0 0 19811 [.incomplete, .exceed, .normal]) 19812 13837906 = (.suspect, 0, 1, [.suspect]) ∧
      moved (past .suspect 0 1 19812 [.exceed]) 19813 12900000 = (.suspect, 1, 1, []) := by decide +kernel

theorem test_tenNightsOn :
    moved (past .suspect 1 1 19814 [.held]) 19815 12900000 = (.clear, 2, 1, [.cleared]) ∧
      moved (past .watch 0 1 19817 [.balance, .exceed, .normal]) 19818 13837906 = (.confirmed, 0, 2, [.confirmed]) ∧
      moved (past .confirmed 0 2 19818 [.exceed]) 19819 17900000 = (.confirmed, 0, 2, [.burst]) := by decide +kernel

theorem test_otherMoves :
    moved (past .burst 0 0 10 [.burst]) 11 13837906 = (.suspect, 0, 1, [.suspect]) ∧
      moved (past .clear 0 0 10 []) 11 17900000 = (.burst, 0, 0, [.burst]) ∧
      moved (past .watch 0 0 10 []) 11 13837906 = (.watch, 0, 0, []) ∧
      moved (past .suspect 0 1 10 []) 11 13837906 = (.suspect, 0, 1, []) ∧
      moved (past .confirmed 7 1 10 []) 11 12900000 = (.confirmed, 7, 1, []) := by decide +kernel

/-- A ninth entry pushes the oldest out; entries at or above its night go. -/
theorem test_history :
    ((past .clear 0 0 19809 (List.replicate 8 .normal)).workPlain 19810 .held none).history.map (·.night) =
        [19810, 19809, 19808, 19807, 19806, 19805, 19804, 19803] ∧
      ((past .clear 0 0 19809 (List.replicate 8 .normal)).workPlain 19807 .held none).history.map (·.night) =
        [19807, 19806, 19805, 19804, 19803, 19802] := by decide +kernel

/-- A state with zone 5. -/
def zone5 (m : Mode) (z : Zone) : State := (inMode m).putZone 5 z

theorem test_setZone :
    zoneItem settings = none ∧
      ask (.setZone 1 5 0 settings) (zone5 .setup resetZone) = some (.ok, [1]) ∧
      ask (.setZone 1 5 0 { settings with nSettle := 8 }) (zone5 .setup (zoneIn .fault)) = some (.ok, [1]) ∧
      ask (.setZone 1 5 0 settings) (zone5 .setup (zoneIn .settling)) = some (.ok, [2]) ∧
      ask (.setZone 1 5 0 settings) (zone5 .setup (zoneIn .confirmed)) = some (.ok, [6]) ∧
      ask (.setZone 1 5 0 { settings with kNights := 4 }) (inMode .setup) = refused .range 23 ∧
      ask (.setZone 1 5 2 settings) (inMode .setup) = refused .range 1 ∧
      ask (.setZone 1 48 0 settings) (inMode .setup) = refused .range 0 ∧
      ask (.setZone 1 5 0 settings) (inMode .run) = refused .wrongState 0 := by decide +kernel

theorem test_unconfigure :
    ask (.setZoneUnconfigure 1 5 settings) (zone5 .setup (zoneIn .watch)) = some (.ok, [0]) ∧
      (after (.setZoneUnconfigure 1 5 settings) (zone5 .setup (zoneIn .watch))).zone 5 = resetZone ∧
      ask (.setZoneUnconfigure 1 5 settings) (inMode .setup) = some (.ok, [0]) ∧
      ask (.setZoneUnconfigure 1 5 settings) ((zone5 .setup (zoneIn .watch)).putMeter 9 (slotIn .live (remote 1 5) none)) =
        some (.invalid, [0, 1, 5, 2, 9]) := by decide +kernel

theorem test_holdZone :
    (after (.holdZoneSet 1 5 0) (zone5 .run { zoneIn .clear with record := some (recordIn .collecting 1 []) })).zone 5 =
        { zoneIn .clear with holdFlag := true, record := some { recordIn .collecting 1 [] with held := true } } ∧
      ask (.holdZoneSet 1 5 0) (zone5 .run { zoneIn .clear with holdFlag := true }) = some (.ok, [1, 1]) ∧
      ask (.holdZoneRelease 1 5) (zone5 .run { zoneIn .fault with holdFlag := true }) = some (.ok, [0, 0]) ∧
      ask (.holdZoneSet 1 5 2) (inMode .run) = refused .range 1 ∧ ask (.holdZoneSet 1 48 0) (inMode .run) = refused .range 0 ∧
      ask (.holdZoneSet 1 47 0) (inMode .run) = refused .noSuch 0 ∧
      ask (.holdZoneRelease 1 47) (inMode .starting) = refused .wrongState 0 := by decide +kernel

theorem test_clearZone :
    (after (.clearZoneRelearn 1 5 0) (zone5 .run (zoneIn .confirmed))).zone 5 =
        { zoneIn .settling with baseline := 0, spread := 0, settling := 0 } ∧
      ((after (.clearZoneRebase 1 5) (zone5 .run { zoneIn .confirmed with
        history := [⟨9, .held, none, none, none, false⟩, ⟨8, .exceed, some 77, some 1, some 2, false⟩] })).zone 5).baseline = 77 ∧
      ((after (.clearZoneKeep 1 5) (zone5 .run { zoneIn .burst with settling := 6 })).zone 5).condition = .settling ∧
      ((after (.clearZoneKeep 1 5) (zone5 .run (zoneIn .burst))).zone 5).condition = .clear := by decide +kernel

theorem test_clearZoneRefused :
    ask (.clearZoneRebase 1 5) (zone5 .run (zoneIn .confirmed)) = some (.invalid, [0, 1, 5, 0, 0]) ∧
      ask (.clearZoneKeep 1 5) (zone5 .run { zoneIn .clear with record := some (recordIn .closing 1 []) }) = refused .busy 0 ∧
      ask (.clearZoneKeep 1 5) (zone5 .run (zoneIn .fault)) = refused .wrongState 0 ∧
      ask (.clearZoneRelearn 1 5 3) (zone5 .run (zoneIn .fault)) = refused .range 1 ∧
      ask (.clearZoneRelearn 1 48 0) (inMode .run) = refused .range 0 ∧
      ask (.clearZoneRelearn 1 47 0) (inMode .starting) = refused .wrongState 0 := by decide +kernel

theorem test_baselinePut :
    ask (.baselinePut 1 5 0x7FFFFFFF 0 7) (zone5 .setup (zoneIn .suspect)) =
        some (.ok, [2, 0x7F, 0xFF, 0xFF, 0xFF, 0, 0, 0, 0, 7]) ∧
      ask (.baselinePut 1 5 0x80000000 0 7) (zone5 .setup (zoneIn .suspect)) = refused .range 1 ∧
      ask (.baselinePut 1 5 0 0x80000000 7) (zone5 .setup (zoneIn .suspect)) = refused .range 5 ∧
      ask (.baselinePut 1 5 0 0 31) (zone5 .setup (zoneIn .suspect)) = refused .range 9 ∧
      ask (.baselinePut 1 5 0 0 6) (zone5 .setup (zoneIn .confirmed)) = refused .wrongState 0 ∧
      ask (.baselinePut 1 47 0 0 6) (inMode .setup) = refused .noSuch 0 ∧
      ask (.baselinePut 1 48 0 0 6) (inMode .setup) = refused .range 0 ∧
      ask (.baselinePut 1 5 0 0 6) (inMode .run) = refused .wrongState 0 := by decide +kernel

/-! ## Findings and attention -/

/-- An ENTRY-FAULT finding of slot 11. -/
def finding11 : Finding := ⟨.entryFault, .meter 11, none, none, none⟩

theorem test_findingsTake :
    ask (.findingsTake 1 6) { inMode .run with findings := List.replicate 2 finding11 } =
        some (.ok, 2 :: 0 :: (findingBytes finding11 ++ findingBytes finding11)) ∧
      (after (.findingsTake 1 1) { inMode .run with findings := List.replicate 2 finding11 }).findings = [finding11] ∧
      findingBytes finding11 = [8, 2, 11, 0, 0, 0, 0, 0, 0, 0, 0, 0, 0, 0, 0, 0, 0, 0] ∧
      ask (.findingsTake 1 0) (inMode .run) = refused .range 0 ∧
      ask (.findingsTake 1 7) (inMode .run) = refused .range 0 := by decide +kernel

theorem test_offer :
    ((inMode .run).offer finding11).attn.latched = 0x21 ∧ ((inMode .run).offer finding11).findings = [finding11] ∧
      (({ inMode .run with findings := List.replicate 32 finding11 }).offer finding11).attn.latched = 0x22 ∧
      ((({ inMode .run with findings := List.replicate 32 finding11 }).offer finding11).meter 11).lost = true ∧
      (({ inMode .run with findings := List.replicate 31 finding11 }).offer finding11).findings.length = 32 := by
  decide +kernel

theorem test_attention :
    ask (.attnGet 1) { inMode .run with findings := [finding11] } = some (.ok, [1, 0x20, 0x7F]) ∧
      ask (.attnClear 1 0xFF) { inMode .run with findings := [finding11] } = some (.ok, [1, 1, 0x7F]) ∧
      ask (.attnEnable 1 0) (inMode .run) = some (.ok, [0, 0x20, 0]) ∧
      (inMode .run).attnLine = true ∧ (after (.attnEnable 1 0) (inMode .run)).attnLine = false := by decide +kernel

/-! ## Entry checker -/

/-- A state with one corrupted zone entry and one corrupted meter entry. -/
def corrupted : State := ((inMode .run).putZone 5 { zoneIn .watch with code := 0 }).putMeter 11
  { slotIn .live (remote 1 5) none with code := 0 }

theorem test_verify :
    (corrupted.verify (.zone 5)).zone 5 = { zoneIn .watch with code := 0, mark := true, kept := .fault } ∧
      (corrupted.verify (.meter 11)).meter 11 = { slotIn .faulted (remote 1 5) none with code := 0, mark := true } ∧
      (corrupted.verify (.meter 11)).findings = [finding11] ∧ (corrupted.verify (.meter 11)).attn.latched = 0x25 ∧
      (({ corrupted with analyser := ⟨some { analysis66 with zone := 5 }, []⟩ }).verify (.zone 5)).analyser.analysing =
        some { analysis66 with zone := 5, deferredFault := true } := by decide +kernel

/-- The scrub of a boundary in RUN verifies the 16 entries from the pointer on, wrapping, one by one; none outside RUN. -/
theorem test_scrub :
    ((after (.secondTick [] .whole) { corrupted with time := clock 899 0 0 }).zone 5).condition = .fault ∧
      ((after (.secondTick [] .whole) { corrupted with time := clock 899 0 0, checker := ⟨170, none, none⟩ }).zone 5).mark
        = true ∧
      ((after (.secondTick [] .whole) { corrupted with time := clock 899 0 0, checker := ⟨165, none, none⟩ }).zone 5).mark
        = false ∧
      ((after (.secondTick (List.replicate 5 .verify) .start) { corrupted with time := clock 899 0 0 }).zone 5).mark = false ∧
      ((after (.secondTick (List.replicate 6 .verify) .start) { corrupted with time := clock 899 0 0 }).zone 5).mark = true ∧
      ((after (.secondTick [] .whole) { corrupted with time := clock 899 0 0, ctl := (inMode .setup).ctl }).zone 5).mark
        = false := by decide +kernel

/-- A zone whose stored configured byte reads "not configured" is UNCONFIGURED while its mark is clear (R20). -/
theorem test_conditionReadsEntry :
    ({ zoneIn .clear with entry := ⟨0, settings⟩ }).condition = .unconfigured ∧
      ({ zoneIn .fault with entry := ⟨0, settings⟩, mark := true }).condition = .fault ∧
      ask (.historyGet 1 5) (zone5 .run { zoneIn .clear with entry := ⟨0, settings⟩ }) = refused .noSuch 0 := by
  decide +kernel

/-- A check pass at an entry. -/
def passing (m : Mode) (origin : PassOrigin) (next : Fin 176) : State :=
  { inMode m with checker := ⟨0, some ⟨origin, next, 0⟩, none⟩ }

theorem test_checkPass :
    ask (.checkPass 1) (inMode .run) = some (.accepted, []) ∧
      ask (.checkPass 1) (passing .starting .startUp 9) = refused .busy 0 ∧
      (after .checkPassVerify (passing .run .request 174)).checker = ⟨0, some ⟨.request, 175, 0⟩, none⟩ ∧
      (after .checkPassVerify (passing .run .request 175)).checker = ⟨0, none, some ⟨.request, false, 176, 0⟩⟩ := by
  decide +kernel

/-- The end of the start-up pass: RUN with records opened for night 0; or SETUP when no night is left. -/
theorem test_enterRun :
    ((after .checkPassVerify ((passing .starting .startUp 175).putZone 5 (zoneIn .clear))).zone 5).record =
        some (recordIn .waiting 0 []) ∧
      (after .checkPassVerify (passing .starting .startUp 175)).ctl.mode = .run ∧
      (after .checkPassVerify (passing .starting .startUp 175)).attn.latched = 0x40 ∧
      (after .checkPassVerify { passing .starting .startUp 175 with time := clock 4294967295 0 0 }).ctl.mode = .setup := by
  decide +kernel

/-- Exactly at the window start the record opens COLLECTING, held under an active hold; the mask and other latches stay. -/
theorem test_enterRunAtWindowStart :
    let s := { (passing .starting .startUp 175).putZone 5 { zoneIn .clear with holdFlag := true } with
      time := clock 7200 0 0, attn := { latched := 0x2A, mask := 0x55 } }
    ((after .checkPassVerify s).zone 5).record = some { recordIn .collecting 0 [] with held := true } ∧
      (after .checkPassVerify s).attn = { latched := 0x4A, mask := 0x55 } := by decide +kernel

/-! ## Reads -/

theorem test_readsClearMarks :
    ((after (.zoneGet 1 5) (zone5 .run { zoneIn .clear with lost := true })).zone 5).lost = false ∧
      ask (.meterGet 1 127) ((inMode .run).putMeter 127 { resetMeter with binding := remote 1 3 }) =
        ask (.meterGet 1 127) (inMode .run) ∧
      ((after (.meterGet 1 127) ((inMode .run).putMeter 127 { resetMeter with lost := true })).meter 127).lost = false ∧
      ((after (.channelGet 1 15) ((inMode .run).putChannel 15 { resetChannel with overflow := true })).channel 15).overflow
        = false ∧
      ask (.zoneGet 1 48) (inMode .run) = refused .range 0 ∧ ask (.meterGet 1 128) (inMode .run) = refused .range 0 ∧
      ask (.channelGet 1 16) (inMode .run) = refused .range 0 := by decide +kernel

/-- The digits are present for REMOTE alone: an UNBOUND slot is answered with the cleared binding. -/
theorem test_meterGetDigits :
    ask (.meterGet 1 0) (inMode .run) = some (.ok,
        [0, 0, 0, 0, 0, 0, 0, 0, 0, 0, 0, 0, 0, 0, 0, 0, 0, 0] ++ be16 (bindingCode clearedBinding) ++
          [0, 0, 0, 0, 0, 0, 0, 0, 0, 0, 0, 0]) ∧
      (ask (.meterGet 1 0) ((inMode .run).putMeter 0 (slotIn .awaiting (remote 1 3) none))).map
        (fun p => (p.2.drop 11).take 2) = some [1, 6] ∧
      (ask (.meterGet 1 0) ((inMode .run).putMeter 0 (slotIn .awaiting (pulseOn 2 1 3) none))).map
        (fun p => (p.2.drop 11).take 2) = some [0, 0] := by decide +kernel

theorem test_statusGet : ask (.statusGet 1) night66 = some (.ok,
    [2, 0x65, 0xFA, 0x68, 0xA0, 0, 0, 0, 0, 0, 0, 0, 1, 0xFF, 0, 0, 0, 0, 0, 0, 0, 0, 0, 0]) := by decide +kernel

theorem test_plainReads :
    ask (.historyGet 1 5) (zone5 .run (past .clear 3 1 9 [.held])) =
        some (.ok, [2, 3, 1, 1, 0, 9, 6, 0, 0, 0, 0, 0, 0, 0, 0, 0, 0, 0, 0, 0, 0, 0, 0]) ∧
      ask (.historyGet 1 47) (inMode .run) = refused .noSuch 0 ∧ ask (.historyGet 1 48) (inMode .run) = refused .range 0 ∧
      ask (.baselineGet 1 5) (zone5 .run (zoneIn .clear)) = some (.ok, [2] ++ be32 12900000 ++ be32 300000 ++ [7, 7, 1] ++
        be32 600000 ++ be32 5000000 ++ be32 13500000 ++ be32 17900000) ∧
      ask (.baselineGet 1 47) (inMode .run) = refused .noSuch 0 ∧ ask (.baselineGet 1 48) (inMode .run) = refused .range 0 := by
  decide +kernel

theorem test_entryRaw :
    ask (.entryRaw 1 1 127) (inMode .run) = some (.ok, List.replicate 20 0 ++ be16 (bindingCode clearedBinding) ++
        be16 (bindingCode clearedBinding) ++ [1, 0]) ∧
      (ask (.entryRaw 1 0 47) (inMode .run)).map (·.2.length) = some 34 ∧
      ask (.entryRaw 1 0 48) (inMode .run) = refused .range 1 ∧ ask (.entryRaw 1 1 128) (inMode .run) = refused .range 1 ∧
      ask (.entryRaw 1 2 0) (inMode .run) = refused .range 0 := by decide +kernel

theorem test_nightGet :
    ask (.nightGetVolumes 1 12 7) night66 = some (.ok, [1, 1, 0, 0, 0, 0, 0, 0x4A, 0xC4, 0xA0]) ∧
      ask (.nightGetPressure 1 12 7) night66 = some (.ok, [1, 1, 0, 0, 0, 0, 0]) ∧
      ask (.nightGetVolumes 1 12 8) night66 = refused .range 2 ∧ ask (.nightGetVolumes 1 12 32) night66 = refused .range 2 ∧
      ask (.nightGetPressure 1 11 31) night66 = some (.ok, [0, 0]) ∧
      ask (.nightGetSummary 1 11 0 0) night66 = some (.ok, List.replicate 37 0) ∧
      ask (.nightGetSummary 1 12 3 0) night66 = refused .range 1 ∧
      ask (.nightGetSummary 1 48 0 0) night66 = refused .range 0 := by decide +kernel

/-! ## Modes and resets -/

/-- RUN with zone 3 COLLECTING, and the leaving phase under way with ENTER-SETUP in hand. -/
def leaving : State :=
  { night0 .collecting 9000 with
    ctl := { mode := .run, leaving := some ⟨2, [7]⟩, restarting := false }
    link := { State.reset.link with hand := some ⟨⟨1, 0x02, []⟩, .working⟩ } }

theorem test_enterSetup :
    ask (.enterSetup 1) (inMode .setup) = refused .wrongState 0 ∧
      ask (.enterSetup 1) (passing .starting .startUp 9) = some (.ok, [0, 0, 0]) ∧
      (after (.enterSetup 1) (passing .starting .startUp 9)).checker = ⟨0, none, some ⟨.startUp, true, 9, 0⟩⟩ ∧
      (after (.enterSetup 1) (inMode .run)).ctl.leaving = some ⟨0, []⟩ ∧
      (after (.enterSetup 1) { committable .run .clear with stage :=
        { (staged 1 .run true).stage with due := false } }).ctl.leaving = some ⟨1, []⟩ := by decide +kernel

theorem test_leavingPhaseEnd :
    reply (after .leavingPhaseEnd leaving) = some (.ok, [2, 1, 1]) ∧
      ((after .leavingPhaseEnd leaving).zone 3).lastClose = some ⟨0, .ended⟩ ∧
      ((after .leavingPhaseEnd leaving).zone 3).history = [⟨0, .incomplete, none, none, none, false⟩] ∧
      (after .leavingPhaseEnd { leaving with analyser := ⟨some analysis66, []⟩ }).ctl.mode = .run ∧
      (after .leavingPhaseEnd (inMode .run)).ctl.mode = .run := by decide +kernel

theorem test_leaveSetup :
    ask (.leaveSetup 1) (zone5 .setup (zoneIn .clear)) = some (.accepted, []) ∧
      (after (.leaveSetup 1) (inMode .setup)).checker.pass = some ⟨.startUp, 0, 0⟩ ∧
      ask (.leaveSetup 1) { inMode .setup with time := clock 4294967295 0 0 } = refused .invalid 1 ∧
      ask (.leaveSetup 1) (zone5 .setup { zoneIn .clear with entry := ⟨1, { settings with holdLine := 4 }⟩ }) =
        some (.invalid, [2, 1, 5, 0, 0]) ∧
      ask (.leaveSetup 1) ((inMode .setup).putMeter 11 (slotIn .live (pulseOn 2 1 5) none)) =
        some (.invalid, [3, 2, 11, 0, 0]) ∧
      ask (.leaveSetup 1) (inMode .run) = refused .wrongState 0 := by decide +kernel

/-- RESTART taken, with work in flight to clear. -/
def restarting : State :=
  { (((inMode .run).putZone 5 { zoneIn .watch with run := 3, mark := true }).putMeter 11
      (slotIn .doubtful (remote 1 5) (some ⟨5, 6⟩))).putChannel 5 { countChannel .counting with list := [.pulse 1 1] } with
    findings := [finding11]
    ctl := { mode := .run, leaving := none, restarting := true }
    link := { State.reset.link with hand := some ⟨⟨1, 0x04, []⟩, .working⟩ } }

/-- RESTART taken in STARTING ends STARTING and abandons its pass; a commit due meets the end of an item all the same. -/
theorem test_restartTaken :
    (after (.restart 1) (passing .starting .startUp 9)).ctl = { mode := .setup, leaving := none, restarting := true } ∧
      (after (.restart 1) (passing .starting .startUp 9)).checker = ⟨0, none, some ⟨.startUp, true, 9, 0⟩⟩ ∧
      (after (.restart 1) (passing .run .request 9)).checker = (passing .run .request 9).checker ∧
      (after (.intakeItemEnd []) { restarting with
        intake := { State.reset.intake with hand := .served 5 none }
        stage := { (staged 1 .run true).stage with due := true } }).stage.bindings = [] := by decide +kernel

theorem test_restart :
    (after (.restart 1) (inMode .run)).ctl.restarting = true ∧
      (after .restartClear restarting).attn.latched = 0x24 ∧ (after .restartClear restarting).findings = [] ∧
      (after .restartClear restarting).zone 5 = { zoneIn .clear with mark := true } ∧
      (after .restartClear restarting).meter 11 = slotIn .awaiting (remote 1 5) none ∧
      (after .restartClear restarting).channel 5 = { countChannel .counting with tally := 0 } ∧
      reply (after .restartClear restarting) = some (.ok, []) ∧ (after .restartClear (inMode .run)).ctl.mode = .run := by
  decide +kernel

theorem test_resets :
    (after (.powerOn true false) restarting).attn.latched = 0x20 ∧ (after (.powerOn true false) restarting).link.rate = .r115200 ∧
      (after (.powerOn true false) (after .resetPinLow restarting)).attnLine = false ∧
      (after (.pinReset true false) (after .resetPinLow restarting)).attnLine = true ∧
      (after (.pinReset false true) restarting).ctl.mode = .setup ∧
      (after (.pinReset false true) restarting).link.rate = .r38400 ∧
      (after .resetPinLow restarting).attnLine = false ∧
      (after (.byteReceived (.byte 0xC3)) (after .resetPinLow restarting)).link.rx = .hunting := by decide +kernel

/-! ## Link: the worked sequence of 12.8 -/

/-- RUN with a request in hand, waiting frames and a receiver. -/
def linked (hand : Option InHand) (queue : List Frame) (rx : Receiver) : State :=
  { inMode .run with link := { State.reset.link with hand := hand, queue := queue, rx := rx } }

/-- The request in hand of 12.8. -/
def busy : Option InHand := some ⟨⟨0x40, 0x41, []⟩, .working⟩

/-- ZONE-GET for zone 12 up to the last CRC byte. -/
def zoneGetRx : Receiver := .inFrame [0x03, 0x42, 0x11, 0x0C, (be16 (crc16 [0x03, 0x42, 0x11, 0x0C])).head!]

/-- Its last CRC byte. -/
def lastByte : RxEvent := .byte ((crc16 [0x03, 0x42, 0x11, 0x0C]).extractLsb' 0 8)

theorem test_receiver :
    (after (.byteReceived (.byte 0xC3)) (linked none [] .hunting)).link.rx = .inFrame [] ∧
      (after (.byteReceived (.byte 2)) (linked none [] (.inFrame []))).link.rx = .inFrame [2] ∧
      (after (.byteReceived (.byte 240)) (linked none [] (.inFrame []))).link.rx = .inFrame [240] ∧
      (after (.byteReceived (.byte 241)) (linked none [] (.inFrame []))).link.rx = .hunting ∧
      (after (.byteReceived (.byte 1)) (linked none [] (.inFrame []))).link.rx = .hunting ∧
      (after (.byteReceived .framingError) (linked none [] (.inFrame [3, 1]))).link.rx = .hunting ∧
      (after (.byteReceived (.byte 9)) (linked none [] (.inFrame [3, 1]))).link.rx = .inFrame [3, 1, 9] ∧
      (after .frameGapTimeout (linked none [] (.inFrame [3, 1]))).link.rx = .hunting := by decide +kernel

theorem test_completeFrame :
    (after (.byteReceived lastByte) (linked busy [] zoneGetRx)).link.queue = [⟨0x42, 0x11, [0x0C]⟩] ∧
      (after (.byteReceived lastByte) (linked busy [⟨1, 1, []⟩, ⟨2, 1, []⟩] zoneGetRx)).link.dropped = true ∧
      (after (.byteReceived lastByte) (linked none [] zoneGetRx)).link.hand = some ⟨⟨0x42, 0x11, [0x0C]⟩, .waiting⟩ ∧
      (after (.byteReceived (.byte 0)) (linked none [] zoneGetRx)).link.hand = none ∧
      reply (after (.byteReceived (.byte ((crc16 [0x02, 0x42, 0x11]).extractLsb' 0 8)))
        (linked none [] (.inFrame [0x02, 0x42, 0x11, (be16 (crc16 [0x02, 0x42, 0x11])).head!]))) =
        refused .badLength 0 := by decide +kernel

/-- A reply being sent. -/
def sending : Option InHand := some ⟨⟨1, 1, []⟩, .sending ⟨1, 0x81, .ok, false, false, []⟩⟩

theorem test_order :
    (after .replySent (linked sending [] .hunting)).link.hand = none ∧
      (after .replySent (linked sending [⟨2, 0x11, [3]⟩] .hunting)).link.hand = some ⟨⟨2, 0x11, [3]⟩, .waiting⟩ ∧
      reply (after .replySent (linked sending [⟨2, 0x11, []⟩] .hunting)) = refused .badLength 0 ∧
      (after .replySent (linked busy [⟨2, 0x11, [3]⟩] .hunting)).link.hand = busy ∧
      ask (.unknownKind 1 0x91 []) (inMode .run) = refused .unknownKind 0 ∧
      (after (.statusGet 9) (linked busy [] .hunting)).link.queue = [⟨9, 0x01, []⟩] ∧
      (after (.statusGet 9) (linked busy [⟨1, 1, []⟩, ⟨2, 1, []⟩] .hunting)).link.dropped = true := by decide +kernel

end Sys2Proof.Tests
end

namespace Sys2Proof.Safety

open Sys2Proof Machine

/-! ## Zones within their bounds -/

theorem flowOk_clampFlow (x : Int) : FlowOk (clampFlow x) := by
  simp only [FlowOk, clampFlow, Config.flowMax]; omega

theorem flowOk_zero : FlowOk 0 := by simp [FlowOk]

/-- A corrected flow is a flow the zone's memory may hold (R105). -/
theorem flowOk_correctedFlow {leak : Int} (h : 0 ≤ leak) (factor : Nat) : FlowOk (correctedFlow leak factor) := by
  have product : 0 ≤ leak * factor := Int.mul_nonneg h (Int.natCast_nonneg factor)
  have quotient : 0 ≤ (leak * factor + 8192).fdiv 16384 := Int.fdiv_nonneg (by omega) (by omega)
  simp only [FlowOk, correctedFlow, Config.flowMax]
  omega

theorem flowOk_toNat {x : W32} (h : x.toNat ≤ 2147483647) : FlowOk (x.toNat : Int) := by
  simp only [FlowOk]; omega

/-- The corrected flow of a night's class can stand in a history (R105). -/
def ClassOk : NightClass → Prop
  | .judged _ _ _ _ _ c => FlowOk c
  | _ => True

/-- The bins of a record within their bounds (R83). -/
def RecordOk (r : NightRecord) : Prop := ∀ b ∈ r.bins, BinOk b

namespace ZoneBounds

variable {z : Zone}

/-- A new open record within its bounds. -/
theorem setRecord (h : ZoneBounds z) {o : Option NightRecord} (ho : ∀ r, o = some r → RecordOk r) :
    ZoneBounds { z with record := o } := { h with bins := ho }

theorem recordOk (h : ZoneBounds z) {r : NightRecord} (hr : z.record = some r) : RecordOk r := h.bins r hr

theorem noRecord (h : ZoneBounds z) : ZoneBounds { z with record := none } := h.setRecord (by simp)

/-- A change of the open record that keeps its bins' bounds. -/
theorem mapRecord (h : ZoneBounds z) {f : NightRecord → NightRecord} (hf : ∀ r, RecordOk r → RecordOk (f r)) :
    ZoneBounds { z with record := z.record.map f } := by
  refine h.setRecord fun r hr => ?_
  obtain ⟨r', hr', rfl⟩ := Option.map_eq_some_iff.mp hr
  exact hf r' (h.bins r' hr')

theorem setMark (h : ZoneBounds z) (b : Bool) : ZoneBounds { z with mark := b } := { h with }

theorem setLost (h : ZoneBounds z) (b : Bool) : ZoneBounds { z with lost := b } := { h with }

theorem setHoldFlag (h : ZoneBounds z) (b : Bool) : ZoneBounds { z with holdFlag := b } := { h with }

theorem setLastClose (h : ZoneBounds z) (c : Option CloseRecord) : ZoneBounds { z with lastClose := c } := { h with }

/-- A condition other than SETTLING asks nothing of the settling count. -/
theorem setKept (h : ZoneBounds z) {c : Condition} (hc : c = .settling → z.settling < 30) :
    ZoneBounds { z with kept := c } := { h with settlingBelow := hc }

theorem setRun (h : ZoneBounds z) {n : Nat} (hn : n ≤ 7) : ZoneBounds { z with run := n } := { h with run := hn }

theorem setEpisodes (h : ZoneBounds z) {n : Nat} (hn : n ≤ 15) : ZoneBounds { z with episodes := n } :=
  { h with episodes := hn }

theorem outOfService (h : ZoneBounds z) : ZoneBounds z.outOfService := by
  unfold Zone.outOfService
  split
  · exact h
  · exact (h.setKept (c := .fault) nofun).noRecord

theorem calm (h : ZoneBounds z) : ZoneBounds z.calm := by
  refine (h.setKept (c := if z.kept = .watch then .clear else z.kept) ?_).setRun (Nat.zero_le 7)
  split
  · nofun
  · exact h.settlingBelow

/-- A history entry joins at the front, and the order of nights stays strict (R126). -/
theorem addHistory (h : ZoneBounds z) {e : HistoryEntry} (he : ∀ c, e.corrected = some c → FlowOk c) :
    ZoneBounds (z.addHistory e) := by
  have older : ((z.history.filter fun x => x.night < e.night)).Pairwise fun newer older => older.night < newer.night :=
    h.historyOrder.filter _
  refine { h with historyLength := ?_, historyOrder := ?_, historyFlows := ?_ }
  · exact List.length_take_le _ _
  · refine List.Pairwise.sublist (List.take_sublist _ _) (List.pairwise_cons.mpr ⟨fun x hx => ?_, older⟩)
    exact of_decide_eq_true (List.mem_filter.mp hx).2
  · intro x hx c hc
    rcases List.mem_cons.mp (List.mem_of_mem_take hx) with rfl | hx
    · exact he c hc
    · exact h.historyFlows x (List.mem_filter.mp hx).1 c hc

theorem workPlain (h : ZoneBounds z) (night : Nat) (o : NightOutcome) (mnf : Option Int) :
    ZoneBounds (z.workPlain night o mnf) := h.addHistory nofun

/-- The settling update raises the count by one, and ends SETTLING at N_settle at the latest (R118, R119). -/
theorem settlingUpdate (h : ZoneBounds z) {x : ZoneSettings} (hx : x.nSettle.toNat ≤ 30) (hk : z.kept = .settling)
    (c : Int) : ZoneBounds (z.settlingUpdate x c) := by
  have below := h.settlingBelow hk
  unfold Zone.settlingUpdate
  refine { h with baseline := flowOk_clampFlow _, spread := flowOk_clampFlow _, settling := ?_, settlingBelow := ?_ }
  · show z.settling + 1 ≤ 30
    omega
  · show (if x.nSettle.toNat ≤ z.settling + 1 then Condition.clear else z.kept) = .settling → z.settling + 1 < 30
    split
    · nofun
    · omega

theorem shiftedUpdate (h : ZoneBounds z) (x : ZoneSettings) (c : Int) : ZoneBounds (z.shiftedUpdate x c) :=
  { h with baseline := flowOk_clampFlow _, spread := flowOk_clampFlow _ }

theorem learn (h : ZoneBounds z) {x : ZoneSettings} (hx : x.nSettle.toNat ≤ 30) (c : Int) :
    ZoneBounds (z.learn x (z.verdict x c) c) := by
  cases hv : z.verdict x c with
  | settling =>
    refine h.settlingUpdate hx ?_ c
    by_contra hk
    unfold Zone.verdict at hv
    grind
  | normal =>
    unfold Zone.learn
    dsimp only
    split
    iterate 4 exact h.shiftedUpdate x c
    all_goals exact h
  | exceed | burst | balance | incomplete | held => exact h

theorem runAfter_le {run : Nat} (h : run ≤ 7) (v : NightOutcome) : runAfter run v ≤ 7 := by
  cases v <;> simp only [runAfter] <;> omega

theorem enterSuspicion (h : ZoneBounds z) (x : ZoneSettings) : ZoneBounds (z.enterSuspicion x).1 := by
  have raised := h.setEpisodes (n := min 15 (z.episodes + 1)) (by omega)
  unfold Zone.enterSuspicion
  dsimp only
  split
  · exact raised.setKept (c := .confirmed) nofun
  · exact raised.setKept (c := .suspect) nofun

theorem onExceed (h : ZoneBounds z) (x : ZoneSettings) : ZoneBounds (z.onExceed x).1 := by
  unfold Zone.onExceed
  split
  · split
    · exact h.enterSuspicion x
    · exact h.setKept (c := .watch) nofun
  · split
    · exact h.enterSuspicion x
    · exact h
  · exact h.enterSuspicion x
  all_goals exact h

theorem onBurst (h : ZoneBounds z) : ZoneBounds z.onBurst.1 := by
  unfold Zone.onBurst
  split
  iterate 4 exact h.setKept (c := .burst) nofun
  all_goals exact h

theorem onNormal (h : ZoneBounds z) (x : ZoneSettings) : ZoneBounds (z.onNormal x).1 := by
  have cleared : ZoneBounds (if x.rClear.toNat ≤ z.run then ({ z with kept := .clear }, some FindingKind.cleared)
      else (z, none)).1 := by
    split
    · exact h.setKept (c := .clear) nofun
    · exact h
  unfold Zone.onNormal
  split
  iterate 3 exact cleared
  all_goals exact h

theorem move (h : ZoneBounds z) (x : ZoneSettings) (v : NightOutcome) : ZoneBounds (z.move x v).1 := by
  cases v with
  | normal => exact h.onNormal x
  | exceed => exact h.onExceed x
  | burst => exact h.onBurst
  | settling | balance | incomplete | held => exact h

theorem workJudged (h : ZoneBounds z) {x : ZoneSettings} (hx : x.nSettle.toNat ≤ 30) (zid : ZoneId) (night : Nat)
    (mnf : Int) {c : Int} (hc : FlowOk c) (uncorrected : Bool) :
    ZoneBounds (z.workJudged x zid night mnf c uncorrected).1 := by
  have recorded : ZoneBounds ((z.learn x (z.verdict x c) c).addHistory
      { night := night, outcome := z.verdict x c, corrected := some c, excess := some (c - z.baseline),
        mnf := some mnf, uncorrected := uncorrected }) := (h.learn hx c).addHistory (by rintro _ ⟨⟩; exact hc)
  exact (recorded.setRun (runAfter_le recorded.run _)).move x _

/-- A night's outcome leaves the zone's memory within its bounds (R127, R134). -/
theorem work (h : ZoneBounds z) {x : ZoneSettings} (hx : x.nSettle.toNat ≤ 30) (zid : ZoneId) (night : Nat)
    {cls : NightClass} (hcls : ClassOk cls) : ZoneBounds (z.work x zid night cls).1 := by
  cases cls with
  | judged complete mnf start answer factor c => exact h.workJudged hx zid night mnf hcls _
  | held | membershipChanged | short | ended | balance => exact h.workPlain night _ _

theorem reset : ZoneBounds resetZone where
  historyLength := Nat.zero_le _
  historyOrder := List.Pairwise.nil
  historyFlows := nofun
  baseline := flowOk_zero
  spread := flowOk_zero
  nSettle := Nat.zero_le _
  settling := Nat.zero_le _
  settlingBelow := nofun
  bins := nofun
  run := Nat.zero_le _
  episodes := Nat.zero_le _

/-- CLEAR-ZONE REBASE takes its baseline from the history (R140). -/
theorem flowOk_newestCorrected (h : ZoneBounds z) : FlowOk (z.newestCorrected.getD 0) := by
  cases hc : z.newestCorrected with
  | none => exact flowOk_zero
  | some c =>
    obtain ⟨e, he, hec⟩ := List.exists_of_findSome?_eq_some hc
    exact h.historyFlows e he c hec

/-- Of a zone within its bounds that is not settled, the count is below 30. -/
theorem settling_of_not_settled (h : ZoneBounds z) (hs : z.settled = false) : z.settling < 30 := by
  have := h.nSettle
  simp only [Zone.settled, decide_eq_false_iff_not] at hs
  omega

theorem byCount (h : ZoneBounds z) : (if z.settled then Condition.clear else .settling) = .settling → z.settling < 30 := by
  cases hs : z.settled with
  | false => exact fun _ => h.settling_of_not_settled hs
  | true => nofun

theorem cleared (h : ZoneBounds z) (option : Byte) {c : Int} (hc : FlowOk c) : ZoneBounds (z.cleared option c) := by
  have ended := (h.setRun (Nat.zero_le 7)).setEpisodes (Nat.zero_le 15)
  unfold Zone.cleared
  dsimp only
  split
  · exact { ended with baseline := flowOk_zero, spread := flowOk_zero, settling := Nat.zero_le _,
                       settlingBelow := fun _ => Nat.succ_pos 29 }
  · split
    · exact { ended with baseline := hc, settlingBelow := nofun }
    · exact ended.setKept h.byCount

theorem putBaseline (h : ZoneBounds z) {b sp : W32} {n : Byte} (hb : b.toNat ≤ 2147483647) (hsp : sp.toNat ≤ 2147483647)
    (hn : n.toNat ≤ 30) : ZoneBounds (z.putBaseline b sp n) := by
  refine { h with baseline := flowOk_toNat hb, spread := flowOk_toNat hsp, settling := hn, settlingBelow := ?_,
                  run := Nat.zero_le _ }
  have := h.nSettle
  show (if z.entry.settings.nSettle.toNat ≤ n.toNat then Condition.clear else .settling) = .settling → n.toNat < 30
  split
  · nofun
  · omega

/-- SET-ZONE writes the entry and sets the condition by the count (R21, R151). -/
theorem configure (h : ZoneBounds z) {x : ZoneSettings} (hx : x.nSettle.toNat ≤ 30) : ZoneBounds (z.configure x) := by
  have written : ZoneBounds { z with entry := ⟨1, x⟩, code := zoneCode ⟨1, x⟩, mark := false } := { h with nSettle := hx }
  unfold Zone.configure
  dsimp only
  split
  · exact { written with
      historyLength := Nat.zero_le _, historyOrder := List.Pairwise.nil, historyFlows := nofun, baseline := flowOk_zero,
      spread := flowOk_zero, settling := Nat.zero_le _, settlingBelow := fun _ => Nat.succ_pos 29, run := Nat.zero_le _,
      episodes := Nat.zero_le _ }
  · exact (written.setKept written.byCount).setRun (Nat.zero_le 7)
  · exact written.setKept written.byCount
  all_goals exact written

end ZoneBounds

end Sys2Proof.Safety

namespace Sys2Proof.Safety

open Sys2Proof Machine

/-! ## The block within its bounds: one rule for each writer of the state -/

/-- The bounds of the time base (R1, R8, R10, R12). -/
structure TimeBounds (t : TimeBase) : Prop where
  partTime : t.partTime ≤ 4294967295
  pendingTrim : -600 ≤ t.pendingTrim ∧ t.pendingTrim ≤ 600
  trimStep : t.grid.trimStep ≤ 4
  standstill : t.standstill ≤ 4

/-- The bounds of the stage (R24). -/
structure StageBounds (g : Stage) : Prop where
  stage : g.bindings.length ≤ 8
  stageSlots : (g.bindings.map (·.slot)).Nodup

namespace Bounds

variable {s : State}

theorem timeBounds (h : Bounds s) : TimeBounds s.time :=
  ⟨h.partTime, h.pendingTrim, h.trimStep, h.standstill⟩

theorem stageBounds (h : Bounds s) : StageBounds s.stage := ⟨h.stage, h.stageSlots⟩

theorem setZones (h : Bounds s) {v : Vector Zone 48} (hv : ∀ z : ZoneId, ZoneBounds v[z.val]) :
    Bounds { s with zones := v } := { h with zones := hv }

theorem setMeters (h : Bounds s) {v : Vector MeterSlot 128} (hv : ∀ m : SlotId, v[m.val].doubt ≤ 3) :
    Bounds { s with meters := v } := { h with doubt := hv }

theorem setChannels (h : Bounds s) {v : Vector Channel 16} (hv : ∀ c : ChanId, v[c.val].list.length ≤ 4) :
    Bounds { s with channels := v } := { h with capture := hv }

theorem mapZones (h : Bounds s) {f : ZoneId → Zone → Zone} (hf : ∀ z, ZoneBounds (f z (s.zone z))) :
    Bounds (s.mapZones f) := h.setZones fun z => by rw [Vector.getElem_ofFn]; exact hf z

theorem putZone (h : Bounds s) (z : ZoneId) {x : Zone} (hx : ZoneBounds x) : Bounds (s.putZone z x) := by
  refine h.setZones fun y => ?_
  rw [Vector.getElem_set]
  split
  · exact hx
  · exact h.zones y

theorem modZone (h : Bounds s) (z : ZoneId) {f : Zone → Zone} (hf : ∀ x, ZoneBounds x → ZoneBounds (f x)) :
    Bounds (s.modZone z f) := h.putZone z (hf _ (h.zones z))

theorem mapMeters (h : Bounds s) {f : SlotId → MeterSlot → MeterSlot} (hf : ∀ m, (f m (s.meter m)).doubt ≤ 3) :
    Bounds (s.mapMeters f) := h.setMeters fun m => by rw [Vector.getElem_ofFn]; exact hf m

theorem putMeter (h : Bounds s) (m : SlotId) {x : MeterSlot} (hx : x.doubt ≤ 3) : Bounds (s.putMeter m x) := by
  refine h.setMeters fun k => ?_
  rw [Vector.getElem_set]
  split
  · exact hx
  · exact h.doubt k

theorem modMeter (h : Bounds s) (m : SlotId) {f : MeterSlot → MeterSlot} (hf : ∀ x, x.doubt ≤ 3 → (f x).doubt ≤ 3) :
    Bounds (s.modMeter m f) := h.putMeter m (hf _ (h.doubt m))

theorem mapChannels (h : Bounds s) {f : ChanId → Channel → Channel} (hf : ∀ c, (f c (s.channel c)).list.length ≤ 4) :
    Bounds (s.mapChannels f) := h.setChannels fun c => by rw [Vector.getElem_ofFn]; exact hf c

theorem putChannel (h : Bounds s) (x : ChanId) {c : Channel} (hc : c.list.length ≤ 4) : Bounds (s.putChannel x c) := by
  refine h.setChannels fun y => ?_
  rw [Vector.getElem_set]
  split
  · exact hc
  · exact h.capture y

theorem modChannel (h : Bounds s) (x : ChanId) {f : Channel → Channel}
    (hf : ∀ c, c.list.length ≤ 4 → (f c).list.length ≤ 4) : Bounds (s.modChannel x f) :=
  h.putChannel x (hf _ (h.capture x))

theorem modTime (h : Bounds s) {f : TimeBase → TimeBase} (hf : TimeBounds (f s.time)) : Bounds (s.modTime f) :=
  { h with partTime := hf.partTime, pendingTrim := hf.pendingTrim, trimStep := hf.trimStep, standstill := hf.standstill }

theorem modStage (h : Bounds s) {f : Stage → Stage} (hf : StageBounds (f s.stage)) : Bounds (s.modStage f) :=
  { h with stage := hf.stage, stageSlots := hf.stageSlots }

theorem modIntake (h : Bounds s) (f : Intake → Intake) : Bounds (s.modIntake f) := { h with }

theorem modChecker (h : Bounds s) (f : Checker → Checker) : Bounds (s.modChecker f) := { h with }

theorem modCtl (h : Bounds s) (f : ModeControl → ModeControl) : Bounds (s.modCtl f) := { h with }

theorem modAttn (h : Bounds s) (f : Attention → Attention) : Bounds (s.modAttn f) := { h with }

theorem setTable (h : Bounds s) (t : Vector W16 17) : Bounds (s.setTable t) := { h with }

theorem setPending (h : Bounds s) (cs : List Instr) : Bounds { s with pending := cs } := { h with }

theorem modAnalyser (h : Bounds s) {f : Analyser → Analyser}
    (hf : ∀ a, (f s.analyser).analysing = some a → a.settings.nSettle.toNat ≤ 30) : Bounds (s.modAnalyser f) :=
  { h with analysing := hf }

theorem setFindings (h : Bounds s) {q : List Finding} (hq : q.length ≤ 32) : Bounds (s.setFindings q) :=
  { h with findings := hq }

theorem modLink (h : Bounds s) {f : Link → Link} (hf : (f s.link).queue.length ≤ 2) : Bounds (s.modLink f) :=
  { h with input := hf }

/-! ## Flags and findings -/

theorem latch (h : Bounds s) (flag : Byte) : Bounds (s.latch flag) := h.modAttn _

theorem unlatch (h : Bounds s) (flags : Byte) : Bounds (s.unlatch flags) := h.modAttn _

theorem markLost (h : Bounds s) (x : Subject) : Bounds (s.markLost x) := by
  cases x with
  | zone z => exact h.modZone z fun _ hz => hz.setLost true
  | meter m => exact h.modMeter m (f := fun x => { x with lost := true }) fun _ hm => hm

/-- The queue takes a finding only while it holds fewer than 32 (R144). -/
theorem offer (h : Bounds s) (x : Finding) : Bounds (s.offer x) := by
  unfold State.offer findingsMax
  split
  next room =>
    have joined : Bounds (s.setFindings (s.findings ++ [x])) := h.setFindings (by simpa using room)
    dsimp only
    split
    · exact joined.latch _
    · exact joined
  next => exact (h.markLost _).latch _

theorem offerAll (h : Bounds s) (fs : List Finding) : Bounds (s.offerAll fs) := by
  induction fs generalizing s with
  | nil => exact h
  | cons x fs ih => exact ih (h.offer x)

/-! ## Entry faults -/

theorem setMark (h : Bounds s) (e : Subject) : Bounds (s.setMark e) := by
  unfold State.setMark
  cases e with
  | zone z =>
    have marked := h.modZone z fun _ hz => hz.setMark true
    dsimp only
    split
    · exact marked.latch _
    · exact marked
  | meter m =>
    have marked : Bounds (s.modMeter m fun x => { x with mark := true }) := h.modMeter m fun _ hm => hm
    dsimp only
    split
    · exact marked.latch _
    · exact marked

theorem outOfService (h : Bounds s) (e : Subject) : Bounds (s.outOfService e) := by
  cases e with
  | zone z => exact h.modZone z fun _ hz => hz.outOfService
  | meter m =>
    refine h.modMeter m fun x hm => ?_
    unfold MeterSlot.outOfService
    split
    · exact hm
    · exact hm

theorem finishFault (h : Bounds s) (e : Subject) : Bounds (s.finishFault e) := (h.outOfService e).offer _

theorem newFault (h : Bounds s) (e : Subject) : Bounds (s.newFault e) := by
  unfold State.newFault
  split
  · refine (h.setMark e).modAnalyser fun a ha => ?_
    obtain ⟨a', ha', rfl⟩ := Option.map_eq_some_iff.mp ha
    exact (h.setMark e).analysing a' ha'
  · exact (h.setMark e).finishFault e

theorem verify (h : Bounds s) (e : Subject) : Bounds (s.verify e) := by
  unfold State.verify
  split
  · exact h
  · exact h.newFault e

theorem verifyAll (h : Bounds s) (es : List Subject) : Bounds (s.verifyAll es) := by
  induction es generalizing s with
  | nil => exact h
  | cons e es ih => exact ih (h.verify e)

/-! ## Replies and requests -/

theorem answer (h : Bounds s) (st : Status) (body : List Byte) : Bounds (s.answer st body) := by
  unfold State.answer
  split
  · exact h
  · split
    · exact h.modLink h.input
    · exact h.modLink h.input

theorem refuse (h : Bounds s) (st : Status) (item : Nat) : Bounds (s.refuse st item) := h.answer st _

theorem setWorking (h : Bounds s) : Bounds s.setWorking := h.modLink h.input

theorem offerFrame (h : Bounds s) (f : Frame) : Bounds (s.offerFrame f) :=
  h.modLink (State.offerFrame_length s f h.input)

theorem takeFrame (h : Bounds s) : Bounds s.takeFrame := by
  unfold State.takeFrame
  split
  next f rest _ hq =>
    have shorter : rest.length ≤ 2 := by
      have := h.input
      simp only [hq, List.length_cons] at this
      omega
    have taken := h.modLink (f := fun l => { l with hand := some { frame := f, phase := .waiting }, queue := rest }) shorter
    dsimp only
    split
    · exact taken.refuse _ _
    · exact taken
  next => exact h

theorem replySent (h : Bounds s) : Bounds s.replySent := by
  unfold State.replySent
  split
  · split
    · exact (h.modLink (f := fun l => { l with hand := none }) h.input).takeFrame
    all_goals exact h
  · exact h

theorem receive (h : Bounds s) (e : RxEvent) : Bounds (s.receive e) := by
  have moved := fun r => h.modLink (f := fun l => { l with rx := r }) h.input
  unfold State.receive
  split
  · exact h
  · dsimp only
    split
    · exact moved _
    · exact ((moved _).offerFrame _).takeFrame

/-- A request keeps the bounds when its owner's taking of it does. -/
theorem request (h : Bounds s) (c : Instr) {act : State → State} (hact : ∀ t, Bounds t → Bounds (act t)) :
    Bounds (s.request c act) := by
  unfold State.request
  split
  · exact h
  · split
    · exact h
    · split
      · exact hact _ (h.modLink h.input)
      · split
        · exact hact s h
        · exact h.offerFrame _

/-! ## Capture lists and gates -/

theorem post (h : Bounds s) (x : ChanId) (r : Capture) : Bounds (s.post x r) := by
  have posted : Bounds (s.modChannel x (·.post r)) := h.modChannel x fun _ => Laws.postTo_length _ r
  unfold State.post
  split
  · dsimp only
    split
    · exact posted.latch _
    · exact posted
  · exact h

theorem resume (h : Bounds s) (x : ChanId) : Bounds (s.resume x) := by
  unfold State.resume
  dsimp only
  split
  · exact (h.post x _).modChannel x fun _ hx => hx
  · exact h.modChannel x fun _ hx => hx

theorem sourcesAssert (h : Bounds s) (x : ChanId) (now : Nat) : Bounds (s.modChannel x (·.sourcesAssert now)) := by
  refine h.modChannel x fun c hx => ?_
  unfold Channel.sourcesAssert
  split
  · split
    · exact hx
    · exact hx
  all_goals exact hx

theorem sourcesClear (h : Bounds s) (x : ChanId) : Bounds (s.sourcesClear x) := by
  unfold State.sourcesClear
  split
  · exact h.modChannel x fun _ hx => hx
  · split
    · exact h.modChannel x fun _ hx => hx
    · exact h.resume x
  all_goals exact h

theorem gateEdge (h : Bounds s) (x : ChanId) (before : Bool) : Bounds (s.gateEdge x before) := by
  unfold State.gateEdge
  split
  · split
    · exact h.sourcesAssert x _
    · split
      · exact h.sourcesClear x
      · exact h
  · exact h

theorem gateEdges (h : Bounds s) (old : State) (cause : ChanId) : Bounds (s.gateEdges old cause) := by
  unfold State.gateEdges
  generalize (List.finRange 16).filter (· != cause) = xs
  induction xs generalizing s with
  | nil => exact h
  | cons x xs ih => exact ih (h.gateEdge x _)

theorem gateAfresh (h : Bounds s) (x : ChanId) : Bounds (s.gateAfresh x) := by
  refine h.modChannel x fun c hx => ?_
  split
  · exact hx
  · exact hx

theorem gatesAfresh (h : Bounds s) : Bounds s.gatesAfresh := by
  unfold State.gatesAfresh
  generalize List.finRange 16 = xs
  induction xs generalizing s with
  | nil => exact h
  | cons x xs ih =>
    rw [List.foldl_cons]
    refine ih ?_
    split
    · exact h.gateAfresh x
    · exact h

theorem pulse (h : Bounds s) (x : ChanId) : Bounds (s.pulse x) := by
  have counted : Bounds (s.modChannel x fun c => { c with tally := c.tally + 1, edgeCounted := true }) :=
    h.modChannel x fun _ hx => hx
  have phased : ∀ {t : State} (n : Channel → Nat), Bounds t → Bounds (t.modChannel x fun c => { c with phase := n c }) :=
    fun _ ht => ht.modChannel x fun _ hx => hx
  unfold State.pulse
  dsimp only
  split
  · split
    · exact (phased _ counted).post x _
    · exact phased _ counted
  · split
    · exact (phased _ counted).post x _
    · exact phased _ counted
  all_goals exact counted

theorem channelBoundary (h : Bounds s) (b : Nat) (x : ChanId) : Bounds (s.channelBoundary b x) := by
  unfold State.channelBoundary
  dsimp only
  split
  · exact h.post x _
  · exact (h.post x _).modChannel x fun _ hx => hx
  all_goals exact h

/-- Setting held marks keeps the bins (R93, R137). -/
theorem holdEdges (h : Bounds s) (old : State) : Bounds (s.holdEdges old) := by
  refine h.mapZones fun z => ?_
  split
  · refine (h.zones z).mapRecord fun r hr => ?_
    split
    · exact hr
    · exact hr
  · exact h.zones z

end Bounds

end Sys2Proof.Safety

namespace Sys2Proof.Safety

open Sys2Proof Machine

/-! ## Records and their bins -/

/-- The shares of a span change volumes alone (R74). -/
theorem recordOk_addShares {r : NightRecord} (h : RecordOk r) (d : Dir) (vs : List Nat) : RecordOk (r.addShares d vs) := by
  intro b hb
  obtain ⟨k, hk, rfl⟩ := List.mem_iff_getElem.mp hb
  have old : k < r.bins.length := by
    simp only [NightRecord.addShares, List.length_zipWith] at hk
    omega
  simp only [NightRecord.addShares, List.getElem_zipWith]
  exact h r.bins[k] (List.getElem_mem old)

theorem binOk_empty : BinOk { volume := 0, pressureSum := 0, pressureCount := 0 } := ⟨Nat.zero_le _, Nat.zero_le _⟩

theorem recordOk_newRecord (s : State) (z : ZoneId) (night : Nat) : RecordOk (s.newRecord z night) := by
  intro b hb
  rw [List.eq_of_mem_replicate hb]
  exact binOk_empty

theorem recordOk_recordFor (s : State) (z : ZoneId) (night : Nat) {r : NightRecord}
    (h : s.recordFor z night = some r) : RecordOk r := by
  unfold State.recordFor at h
  split at h
  · cases h
    exact recordOk_newRecord s z night
  · cases h

/-- A grid mark moves a record and leaves its bins (R92, R93, R95). -/
theorem recordOk_onRecord {r : NightRecord} (h : RecordOk r) (gm : GridMark) (active : Bool) :
    RecordOk (gm.onRecord active r) := by
  unfold GridMark.onRecord
  split
  all_goals
    split
    · exact h
    · exact h

theorem recordOk_updatedRecord {r : NightRecord} (h : RecordOk r) (s old : State) (z : ZoneId) :
    RecordOk (s.updatedRecord old z r) := by
  unfold State.updatedRecord
  split
  all_goals exact h

/-- A sample saturated at 20 000 joins a bin that has room for it (R83). -/
theorem binOk_addSample {b : Bin} (h : BinOk b) (room : b.pressureCount < 255) (v : W16) :
    BinOk (b.addSample (saturatePressure v)) := by
  obtain ⟨hcount, hsum⟩ := h
  simp only [BinOk, Bin.addSample, saturatePressure]
  omega

theorem recordOk_addSample {r : NightRecord} (h : RecordOk r) (k : Nat) (v : W16)
    (room : ((r.bins[k]?.map (·.pressureCount)).getD 0) < 255) :
    RecordOk { r with bins := r.bins.modify k (·.addSample (saturatePressure v)) } := by
  intro b hb
  obtain ⟨j, hj, rfl⟩ := List.mem_iff_getElem.mp hb
  have old : j < r.bins.length := by simpa using hj
  have hj' := h r.bins[j] (List.getElem_mem old)
  simp only [List.getElem_modify]
  split
  next hkj =>
    subst hkj
    rw [List.getElem?_eq_getElem old] at room
    exact binOk_addSample hj' room v
  next => exact hj'

/-! ## The stage -/

/-- A pending binding joins the list and no other leaves. -/
theorem insertPending_perm (p : PendingBinding) (ps : List PendingBinding) : (insertPending p ps).Perm (p :: ps) := by
  induction ps with
  | nil => exact .refl _
  | cons q rest ih =>
    simp only [insertPending]
    split
    · exact .refl _
    · exact (ih.cons q).trans (.swap p q rest)

/-- The stage takes a binding for a slot it holds, or while it has room (R24, R25). -/
theorem StageBounds.write {g : Stage} (h : StageBounds g) (p : PendingBinding)
    (room : g.holds p.slot = true ∨ g.bindings.length < 8) : StageBounds (g.write p) := by
  have perm := insertPending_perm p (g.bindings.filter fun q => q.slot != p.slot)
  constructor
  · have kept : (g.bindings.filter fun q => q.slot != p.slot).length < 8 := by
      rcases room with held | room
      · obtain ⟨q, hq, hslot⟩ := List.any_eq_true.mp held
        have fewer := (List.length_filter_lt_length_iff_exists (p := fun q => q.slot != p.slot)).mpr
          ⟨q, hq, by simpa using hslot⟩
        exact Nat.lt_of_lt_of_le fewer h.stage
      · exact Nat.lt_of_le_of_lt (List.length_filter_le _ _) room
    have := perm.length_eq
    simp only [List.length_cons] at this
    show (insertPending _ _).length ≤ 8
    omega
  · refine ((perm.map (·.slot)).nodup_iff).mpr (List.nodup_cons.mpr ⟨?_, h.stageSlots.sublist (List.filter_sublist.map _)⟩)
    simp

theorem StageBounds.emptied (g : Stage) : StageBounds g.emptied := ⟨Nat.zero_le _, List.nodup_nil⟩

/-! ## The time base -/

namespace TimeBounds

variable {t : TimeBase}

theorem tick (h : TimeBounds t) : TimeBounds t.tick := by
  have := h.standstill
  unfold TimeBase.tick Config.timeEnd
  split
  · exact { h with standstill := Nat.le_trans (Nat.sub_le _ _) h.standstill }
  · split
    next room => exact { h with partTime := room }
    next => exact { h with }

/-- The trim step takes the pending trim towards 0, and a standstill is no longer than the trim step (R11, R12). -/
theorem trim (h : TimeBounds t) : TimeBounds t.trim := by
  obtain ⟨hpart, hpending, hstep, hstand⟩ := h
  unfold TimeBase.trim Config.timeEnd
  dsimp only
  split
  · exact ⟨Nat.min_le_right _ _, by dsimp only; omega, hstep, hstand⟩
  · split
    · exact ⟨hpart, by dsimp only; omega, hstep, by dsimp only; omega⟩
    · exact ⟨hpart, hpending, hstep, hstand⟩

theorem setBoundary (h : TimeBounds t) (w : Option BoundaryWork) : TimeBounds { t with boundary := w } := { h with }

theorem set (h : TimeBounds t) (time : W32) : TimeBounds (t.set time.toNat) where
  partTime := Nat.le_of_lt_succ time.isLt
  pendingTrim := show (-600 : Int) ≤ 0 ∧ (0 : Int) ≤ 600 by decide
  trimStep := h.trimStep
  standstill := Nat.zero_le _

end TimeBounds

namespace Bounds

variable {s : State}

/-! ## Points of meters -/

theorem touchRecord (h : Bounds s) (t : TakenSlot) {f : Dir → NightRecord → NightRecord}
    (hf : ∀ d r, RecordOk r → RecordOk (f d r)) (p : ZoneId × Dir) : Bounds (s.touchRecord t f p) := by
  unfold State.touchRecord
  split
  next r hr =>
    have written : Bounds (s.modZone p.1 fun z => { z with record := some (f p.2 r) }) :=
      h.modZone p.1 fun _ hz => hz.setRecord (by rintro _ ⟨⟩; exact hf p.2 r ((h.zones p.1).recordOk hr))
    split
    · dsimp only
      split
      · exact written
      · exact written.modIntake _
    · exact h
  next => exact h

theorem touchRecords (h : Bounds s) (t : TakenSlot) {f : Dir → NightRecord → NightRecord}
    (hf : ∀ d r, RecordOk r → RecordOk (f d r)) : Bounds (s.touchRecords t f) := by
  unfold State.touchRecords
  generalize (s.meter t.slot).members = ps
  induction ps generalizing s with
  | nil => exact h
  | cons p ps ih => exact ih (h.touchRecord t hf p)

theorem setPoint (h : Bounds s) (m : SlotId) (p : Point) : Bounds (s.setPoint m p) := h.modMeter m fun _ hm => hm

theorem coverFirst (h : Bounds s) (t : TakenSlot) (t1 : Nat) : Bounds (s.coverFirst t t1) :=
  h.touchRecords t fun _ _ hr => hr

theorem coverGap (h : Bounds s) (t : TakenSlot) (t0 t1 : Nat) : Bounds (s.coverGap t t0 t1) :=
  h.touchRecords t fun _ _ hr => hr

theorem apportion (h : Bounds s) (t : TakenSlot) (dv t0 t1 : Nat) : Bounds (s.apportion t dv t0 t1) :=
  h.touchRecords t fun d r hr => recordOk_addShares (r := r.modMember t.slot _) hr d _

/-- The doubt count stops at 3 (R67). -/
theorem doubtSlot (h : Bounds s) (m : SlotId) : Bounds (s.doubtSlot m) := by
  unfold State.doubtSlot
  dsimp only
  split
  · refine Bounds.offer (h.setMeters fun k => ?_) _
    simp only [State.modMeter, State.putMeter, State.meter, Vector.getElem_set]
    split
    · exact Nat.le_refl 3
    · exact h.doubt k
  next below =>
    refine h.putMeter m ?_
    simp only [State.meter_modMeter, if_true] at below
    exact Nat.le_of_lt (Nat.not_le.mp below)

theorem firstReading (h : Bounds s) (t : TakenSlot) (p : Point) : Bounds (s.firstReading t p) :=
  ((h.coverFirst t _).modMeter t.slot fun _ _ => Nat.zero_le 3).setPoint t.slot p

theorem livePoint (h : Bounds s) (t : TakenSlot) (p0 p : Point) : Bounds (s.livePoint t p0 p).1 := by
  unfold State.livePoint
  dsimp only
  split
  · exact (h.coverGap t _ _).setPoint t.slot p
  · split
    · exact ((h.coverGap t _ _).doubtSlot t.slot).setPoint t.slot p
    · have placed := fun dv => (h.apportion t dv p0.time p.time).setPoint t.slot p
      dsimp only
      split
      · exact (placed _).modMeter t.slot fun _ _ => Nat.zero_le 3
      · exact placed _

theorem takePoint (h : Bounds s) (t : TakenSlot) (p : Point) : Bounds (s.takePoint t p).1 := by
  have first := (h.coverFirst t p.time).setPoint t.slot p
  unfold State.takePoint
  dsimp only
  split
  · exact h
  · exact h
  · exact h.firstReading t p
  · exact first
  · exact first
  · split
    · exact first
    · exact h.livePoint t _ p
  · split
    · exact first
    · exact (h.coverGap t _ _).setPoint t.slot p

theorem resumeGap (h : Bounds s) (t : TakenSlot) (g r : Nat) (cr : W32) : Bounds (s.resumeGap t g r cr) :=
  Bounds.setPoint (h.touchRecords t (f := fun _ n => n.modMember t.slot (s.grid.coverResume n.night g r)) fun _ _ hr => hr)
    t.slot _

theorem handleRecord (h : Bounds s) (t : TakenSlot) (r : Capture) : Bounds (s.handleRecord t r) := by
  cases r with
  | pulse t1 c => exact h.takePoint _ _
  | boundary t1 c => exact h.takePoint _ _
  | resume g cg t1 c => exact (h.takePoint t _).resumeGap t _ _ _

/-! ## Commits -/

theorem apply_doubt {m : MeterSlot} (h : m.doubt ≤ 3) (b : MeterBinding) : (m.apply b).doubt ≤ 3 := by
  unfold MeterSlot.apply
  dsimp only
  split
  · split
    · exact h
    all_goals exact Nat.zero_le 3
  · split
    iterate 3
      split
      · exact h
      · exact Nat.zero_le 3
    all_goals exact Nat.zero_le 3

theorem writeBindings (h : Bounds s) : Bounds s.writeBindings := by
  unfold State.writeBindings
  generalize s.stage.bindings = ps
  induction ps generalizing s with
  | nil => exact h
  | cons p ps ih => exact ih (h.modMeter p.slot fun _ hm => apply_doubt hm p.binding)

theorem followMembers (h : Bounds s) (old : State) : Bounds (s.followMembers old) := by
  refine h.mapZones fun z => ?_
  split
  · exact (h.zones z).mapRecord fun r hr => recordOk_updatedRecord hr s old z
  · exact h.zones z

theorem applyCommit (h : Bounds s) : Bounds s.applyCommit :=
  (h.writeBindings.followMembers s).modStage (StageBounds.emptied _)

theorem stageBoundary (h : Bounds s) : Bounds s.stageBoundary := by
  unfold State.stageBoundary
  split
  · split
    · exact h.applyCommit
    · exact h.modStage { h.stageBounds with }
  · exact h

theorem testZones (h : Bounds s) (m : SlotId) (zs : List ZoneId) : Bounds (s.testZones m zs).1 := by
  induction zs generalizing s with
  | nil => exact h
  | cons z zs ih =>
    simp only [State.testZones]
    split
    · exact ih (h.verify _)
    · exact h.verify _

theorem testPending (h : Bounds s) (p : PendingBinding) : Bounds (s.testPending p).1 := by
  unfold State.testPending
  split
  · exact h
  · dsimp only
    split
    · exact h.testZones _ _
    · exact (h.testZones _ _).verifyAll _

theorem validate (h : Bounds s) (ps : List PendingBinding) : Bounds (s.validate ps).1 := by
  induction ps generalizing s with
  | nil => exact h
  | cons p ps ih =>
    simp only [State.validate]
    split
    · exact h.testPending p
    · exact ih (h.testPending p)

/-! ## Boundary events -/

theorem setBoundary (h : Bounds s) (w : BoundaryWork) : Bounds (s.setBoundary w) :=
  h.modTime (h.timeBounds.setBoundary _)

theorem analyserBoundary (h : Bounds s) (mark : Option GridMark) : Bounds (s.analyserBoundary mark) := by
  unfold State.analyserBoundary
  split
  · exact h
  · exact h.mapZones fun z => (h.zones z).mapRecord fun r hr => recordOk_onRecord hr _ _

theorem scrubVerify (h : Bounds s) (w : BoundaryWork) : Bounds (s.scrubVerify w) := by
  unfold State.scrubVerify
  split
  · exact h
  · split
    · exact h.setBoundary _
    · dsimp only
      split
      · exact ((h.setBoundary _).verify _).modChecker _
      · exact (h.setBoundary _).verify _

theorem boundaryPart (h : Bounds s) (p : BoundaryPart) : Bounds (s.boundaryPart p) := by
  unfold State.boundaryPart
  split
  · exact h
  next w _ =>
    cases p with
    | channel c =>
      dsimp only
      split
      · exact (h.setBoundary _).channelBoundary _ _
      · exact h
    | stage =>
      dsimp only
      split
      · exact (h.setBoundary _).stageBoundary
      · exact h
    | analyser =>
      dsimp only
      split
      · exact (h.setBoundary _).analyserBoundary _
      · exact h
    | verify => exact h.scrubVerify w

theorem boundaryParts (h : Bounds s) (order : List BoundaryPart) : Bounds (s.boundaryParts order) := by
  unfold State.boundaryParts
  induction order generalizing s with
  | nil => exact h
  | cons p ps ih => exact ih (h.boundaryPart p)

theorem settle (h : Bounds s) : Bounds s.settle := by
  unfold State.settle
  split
  · exact h
  · have worked := h.boundaryParts allParts
    exact worked.modTime (worked.timeBounds.trim.setBoundary none)

theorem tick (h : Bounds s) : Bounds s.tick := by
  refine h.modTime ?_
  dsimp only
  split
  · exact h.timeBounds.tick.setBoundary _
  · exact h.timeBounds.tick

theorem secondTick (h : Bounds s) (order : List BoundaryPart) (share : SecondShare) : Bounds (s.secondTick order share) := by
  cases share with
  | whole => exact (h.settle.tick.boundaryParts order).settle
  | start => exact h.settle.tick.boundaryParts order
  | more => exact h.boundaryParts order
  | rest => exact (h.boundaryParts order).settle

end Bounds

end Sys2Proof.Safety

namespace Sys2Proof.Safety

open Sys2Proof Machine

/-! ## Fields that pass their tests -/

/-- No test of a request's fields fails exactly when each of them passes (R182). -/
theorem firstFailing_eq_none {tests : List (Nat × Bool)} : firstFailing tests = none ↔ ∀ t ∈ tests, t.2 = true := by
  simp [firstFailing]

theorem nSettle_of_settingsFault {x : ZoneSettings} (h : settingsFault x = none) : x.nSettle.toNat ≤ 30 := by
  have passes := firstFailing_eq_none.mp h (26, byteIn 3 30 x.nSettle) (by simp)
  simp only [byteIn, Bool.and_eq_true, decide_eq_true_eq] at passes
  exact passes.2

theorem trimStep_of_gridFault {g : Grid} (h : gridFault g = none) : g.trimStep ≤ 4 := by
  have passes := firstFailing_eq_none.mp h (13, trimStepOk g) (by simp)
  simp only [trimStepOk, Bool.and_eq_true, decide_eq_true_eq] at passes
  exact passes.2

theorem flows_of_baselineFault {b sp : W32} {n : Byte} (h : baselineFault b sp n = none) :
    b.toNat ≤ 2147483647 ∧ sp.toNat ≤ 2147483647 ∧ n.toNat ≤ 30 := by
  have passes := firstFailing_eq_none.mp h
  simp only [List.forall_mem_cons, decide_eq_true_eq] at passes
  obtain ⟨hb, hsp, hn, -⟩ := passes
  exact ⟨hb, hsp, hn⟩

/-- The corrected flow that a judgement finds is within its bounds (R105). -/
theorem classOk_judge (s : State) (a : Analysis) (r : NightRecord) : ClassOk (s.judge a r) := by
  unfold State.judge
  dsimp only
  split
  · trivial
  · split
    · trivial
    · split
      · trivial
      · split
        · trivial
        · exact flowOk_correctedFlow (Int.le_max_left 0 _) _

namespace Bounds

variable {s : State}

/-! ## Nights -/

theorem handOutcome (h : Bounds s) (zid : ZoneId) {x : ZoneSettings} (hx : x.nSettle.toNat ≤ 30) (night : Nat)
    {cls : NightClass} (hcls : ClassOk cls) : Bounds (s.handOutcome zid x night cls) :=
  (h.putZone zid ((h.zones zid).work hx zid night hcls)).offerAll _

theorem writeClose (h : Bounds s) (zid : ZoneId) (night : Nat) (cls : NightClass) : Bounds (s.writeClose zid night cls) :=
  h.modZone zid fun _ hz => hz.setLastClose _

theorem earlyClose (h : Bounds s) (z : ZoneId) : Bounds (s.earlyClose z) := by
  refine h.modZone z fun _ hz => hz.mapRecord fun r hr => ?_
  split
  · exact hr
  · exact hr

theorem closeNight (h : Bounds s) {a : Analysis} (ha : s.analyser.analysing = some a) (r : NightRecord) :
    Bounds (s.closeNight a r) :=
  ((h.handOutcome a.zone (h.analysing a ha) r.night (classOk_judge s a r)).writeClose _ _ _).modZone a.zone
    fun _ hz => hz.setRecord fun _ => recordOk_recordFor _ _ _

theorem freeAnalyser (h : Bounds s) (zid : ZoneId) : Bounds (s.freeAnalyser zid) :=
  ((h.modAnalyser (f := fun x => { x with analysing := none }) nofun).latch _).modCtl _

theorem analysisEnd (h : Bounds s) : Bounds s.analysisEnd := by
  unfold State.analysisEnd
  split
  · exact h
  next a ha =>
    split
    · exact h.modAnalyser nofun
    · have ended := (h.closeNight ha ‹_›).freeAnalyser a.zone
      dsimp only
      split
      · exact ended.finishFault _
      · exact ended

theorem takeZone (h : Bounds s) (zid : ZoneId) : Bounds (s.takeZone zid) := by
  have seen := (h.modAnalyser (f := fun a => { a with raced := [] }) h.analysing).verify (.zone zid)
  unfold State.takeZone
  dsimp only
  split
  · exact seen.outOfService _
  · exact seen.modAnalyser (by rintro _ ⟨⟩; exact (seen.zones zid).nSettle)

/-! ## Pins, levels and channel requests -/

theorem pinChange (h : Bounds s) (x : ChanId) (high : Bool) (micros : Nat) : Bounds (s.pinChange x high micros) := by
  have moved : Bounds (s.modChannel x fun c => { c with pinHigh := high }) := h.modChannel x fun _ hx => hx
  unfold State.pinChange
  dsimp only
  split
  · exact h
  · split
    · exact moved
    · split
      · exact moved.pulse x
      · exact moved
    · exact moved.modChannel x fun _ hx => hx

theorem statusLevelChange (h : Bounds s) (x : ChanId) : Bounds (s.statusLevelChange x) := by
  unfold State.statusLevelChange
  dsimp only
  split
  · refine (Bounds.gateEdges (h.modChannel x fun _ hx => ?_) s x).holdEdges s
    exact hx
  · exact h

theorem configure_list (c : Channel) (mode : ChanMode) (divider : Nat) (gateLine : Option ChanId) (timing restart : Bool) :
    (c.configure mode divider gateLine timing restart).list = c.list := by
  unfold Channel.configure
  cases mode with
  | off => rfl
  | status => dsimp only; split <;> rfl
  | count => dsimp only; split <;> rfl

theorem setChannel (h : Bounds s) (ch mode divider gateLine timing restartMode : Byte) :
    Bounds (s.setChannel ch mode divider gateLine timing restartMode) := by
  unfold State.setChannel
  split
  · split
    · exact h.refuse _ _
    next x _ =>
      split
      · exact h.refuse _ _
      · have written : Bounds (s.modChannel x fun c => c.configure (chanModeOf mode) divider.toNat (chanOf gateLine)
            (timing = 1) (restartMode = 1)) := h.modChannel x fun c hc => by rwa [configure_list]
        refine ((Bounds.gateEdges ?_ s x).holdEdges s).answer _ _
        split
        · exact written.gateAfresh x
        · exact written
  · exact h.refuse _ _

theorem channelGet (h : Bounds s) (ch : Byte) : Bounds (s.channelGet ch) := by
  unfold State.channelGet
  split
  · exact h.refuse _ _
  · refine Bounds.answer (h.modChannel _ fun _ hx => ?_) _ _
    exact hx

theorem gateSet (h : Bounds s) (x : ChanId) : Bounds (s.gateSet x) := by
  refine Bounds.gateEdge (h.modChannel x fun _ hx => ?_) x _
  exact hx

theorem gateRelease (h : Bounds s) (x : ChanId) : Bounds (s.gateRelease x) := by
  have cleared : Bounds (s.modChannel x fun c => { c with softGate := false }) := h.modChannel x fun _ hx => hx
  unfold State.gateRelease
  dsimp only
  split
  · exact cleared.modChannel x fun _ hx => hx
  · exact cleared.resume x
  · exact cleared.resume x
  all_goals exact cleared

theorem gateChannel (h : Bounds s) (ch action : Byte) : Bounds (s.gateChannel ch action) := by
  unfold State.gateChannel
  split
  · exact h.refuse _ _
  · split
    · exact h.refuse _ _
    next x _ =>
      split
      · exact h.refuse _ _
      · split
        · exact h.refuse _ _
        · split
          · exact (h.gateSet x).answer _ _
          · split
            · exact h.refuse _ _
            · exact (h.gateRelease x).answer _ _

/-! ## Checks of the entries -/

theorem entryRaw (h : Bounds s) (kind number : Byte) : Bounds (s.entryRaw kind number) := by
  unfold State.entryRaw
  split
  · split
    · exact h.refuse _ _
    · exact h.answer _ _
  · split
    · split
      · exact h.refuse _ _
      · exact h.answer _ _
    · exact h.refuse _ _

theorem checkPass (h : Bounds s) : Bounds s.checkPass := by
  unfold State.checkPass
  split
  · exact h.refuse _ _
  · exact (h.modChecker _).answer _ _

theorem enterRun (h : Bounds s) : Bounds s.enterRun := by
  unfold State.enterRun
  dsimp only
  split
  · refine ((Bounds.modCtl (h.mapZones fun z => ?_) _).unlatch _).latch _
    split
    · exact (h.zones z).setRecord (by rintro _ ⟨⟩; exact recordOk_newRecord s z _)
    · exact h.zones z
  · exact h.modCtl _

theorem passVerify (h : Bounds s) (p : CheckPass) : Bounds (s.passVerify p) := by
  have seen := h.verify (entryOf p.next)
  unfold State.passVerify
  dsimp only
  split
  · split
    · split
      · exact (seen.modChecker _).enterRun
      · exact seen.modChecker _
    · exact seen.modChecker _
  · exact seen.modChecker _

/-! ## Stage and meter requests -/

theorem stageMeter (h : Bounds s) (slot : Byte) (b : MeterBinding) : Bounds (s.stageMeter slot b) := by
  unfold State.stageMeter
  split
  · exact h.refuse _ _
  · split
    · exact h.refuse _ _
    · split
      · exact h.refuse _ _
      next m _ =>
        split
        · exact h.refuse _ _
        · split
          · exact h.refuse _ _
          next room =>
            refine Bounds.answer (h.modStage (h.stageBounds.write ⟨m, storedBinding b⟩ ?_)) _ _
            by_cases held : s.stage.holds m = true
            · exact .inl held
            · refine .inr (Nat.lt_of_not_le fun full => room ?_)
              exact Bool.and_eq_true_iff.mpr ⟨by simp [held], decide_eq_true full⟩

theorem acceptCommit (h : Bounds s) : Bounds s.acceptCommit := by
  unfold State.acceptCommit
  dsimp only
  split
  · exact h.applyCommit.answer _ _
  · exact Bounds.answer (h.modStage (f := fun g => { g with commitPending := true }) { h.stageBounds with }) _ _

theorem commitStage (h : Bounds s) : Bounds s.commitStage := by
  unfold State.commitStage
  split
  · exact h.refuse _ _
  · split
    · exact h.refuse _ _
    · split
      · exact h.answer _ _
      · dsimp only
        split
        · exact (h.validate _).answer _ _
        · exact (h.validate _).acceptCommit

theorem discardStage (h : Bounds s) : Bounds s.discardStage := by
  unfold State.discardStage
  split
  · exact h.refuse _ _
  · split
    · exact h.refuse _ _
    · exact Bounds.answer (h.modStage (StageBounds.emptied _)) _ _

theorem meterGet (h : Bounds s) (slot : Byte) : Bounds (s.meterGet slot) := by
  unfold State.meterGet
  split
  · exact h.refuse _ _
  · refine Bounds.answer (h.modMeter _ fun _ hm => ?_) _ _
    exact hm

theorem releaseMeter (h : Bounds s) (m : SlotId) : Bounds (s.releaseMeter m) := by
  unfold State.releaseMeter
  split
  · exact Bounds.answer (h.modMeter m fun _ _ => Nat.zero_le 3) _ _
  · exact h.refuse _ _

theorem meterRelease (h : Bounds s) (slot : Byte) : Bounds (s.meterRelease slot) := by
  unfold State.meterRelease
  split
  · exact h.refuse _ _
  · split
    · exact h.refuse _ _
    · split
      · exact h.setWorking.modIntake _
      · exact h.releaseMeter _

/-! ## The intake -/

theorem requestTests (h : Bounds s) (slot : Byte) (tag : W32) (batch : Bool) (pairs : Nat) :
    Bounds (s.requestTests slot tag batch pairs).1 := by
  unfold State.requestTests
  split
  · exact h
  · split
    · exact h
    · split
      · exact h
      · split
        · exact h
        · exact h.verify _

theorem startReading (h : Bounds s) (slot : Byte) (tag : W32) (batch : Bool) (pairs : List Pair) :
    Bounds (s.startReading slot tag batch pairs) := by
  unfold State.startReading
  exact (h.requestTests slot tag batch _).setWorking.modIntake _

theorem offerReading (h : Bounds s) (slot : Byte) (tag : W32) (batch : Bool) (pairs : List Pair) :
    Bounds (s.offerReading slot tag batch pairs) := by
  unfold State.offerReading
  split
  · exact h.startReading _ _ _ _
  · split
    · exact h.startReading _ _ _ _
    · exact h
  all_goals exact h

theorem setJob (h : Bounds s) (j : ReadingJob) : Bounds (s.setJob j) := h.modIntake _

theorem takePair (h : Bounds s) (m : SlotId) (p : Pair) : Bounds (s.takePair m p).1 := by
  unfold State.takePair
  split
  · exact h
  · exact h.takePoint _ _

theorem readPair (h : Bounds s) (j : ReadingJob) (p : Pair) (rest : List Pair) : Bounds (s.readPair j p rest) := by
  unfold State.readPair
  split
  · exact h.setJob _
  · split
    · exact h.setJob _
    · split
      · exact h.setJob _
      · exact (h.takePair _ p).setJob _

theorem readingPair (h : Bounds s) : Bounds s.readingPair := by
  unfold State.readingPair
  split
  · split
    · exact h.readPair _ _ _
    · exact h.setJob _
    · exact h
  all_goals exact h

theorem findClaimant (h : Bounds s) (ms : List SlotId) : Bounds (s.findClaimant ms).1 := by
  induction ms generalizing s with
  | nil => exact h
  | cons m ms ih =>
    simp only [State.findClaimant]
    split
    · exact ih (h.verify _)
    · exact h.verify _

theorem takeRecord (h : Bounds s) (x : ChanId) (r : Capture) : Bounds (s.takeRecord x r) := by
  have left : Bounds (s.modChannel x fun c => { c with list := c.list.tail }) := by
    refine h.modChannel x fun c hc => ?_
    simp only [List.length_tail]
    omega
  unfold State.takeRecord
  exact (left.findClaimant _).modIntake _

theorem serveRecord (h : Bounds s) (x : ChanId) (r : Capture) (slot : Option TakenSlot) :
    Bounds (s.serveRecord x r slot) := by
  cases slot with
  | none => exact h.modIntake fun i => { i with hand := .served x none }
  | some t => exact (h.handleRecord t r).modIntake fun i => { i with hand := .served x (some t.slot) }

theorem serveChosen (h : Bounds s) (x : ChanId) (resume : Bool) : Bounds (s.serveChosen x resume) := by
  unfold State.serveChosen
  split
  · split
    · exact h.serveRecord _ _ _
    · exact h
  all_goals exact h

theorem captureItem (h : Bounds s) (x : ChanId) (resume : Bool) : Bounds (s.captureItem x resume) := by
  unfold State.captureItem
  split
  · split
    · split
      · exact (h.takeRecord x _).serveChosen x resume
      · exact h
    · exact h
  · exact h.serveChosen x resume
  all_goals exact h

theorem replyReading (h : Bounds s) (j : ReadingJob) : Bounds (s.replyReading j) := by
  unfold State.replyReading
  split
  · exact h
  · exact h.answer _ _
  · exact h.answer _ _

theorem earlyCloses (h : Bounds s) : Bounds s.earlyCloses := by
  have tested : ∀ zs : List ZoneId, Bounds (zs.foldl State.earlyClose s) := by
    intro zs
    induction zs generalizing s with
    | nil => exact h
    | cons z zs ih => exact ih (h.earlyClose z)
  unfold State.earlyCloses
  dsimp only
  split
  · exact (tested _).modAnalyser (tested _).analysing
  · exact tested _

theorem dueCommit (h : Bounds s) : Bounds s.dueCommit := by
  unfold State.dueCommit
  split
  · exact (h.modCtl _).applyCommit
  · exact h

theorem dueRelease (h : Bounds s) : Bounds s.dueRelease := by
  unfold State.dueRelease
  split
  · exact (h.modIntake _).releaseMeter _
  · exact h

theorem itemEndParts (h : Bounds s) (parts : List ItemEndPart) : Bounds (parts.foldl State.itemEndPart s) := by
  induction parts generalizing s with
  | nil => exact h
  | cons p parts ih =>
    cases p with
    | earlyClose => exact ih h.earlyCloses
    | commit => exact ih h.dueCommit
    | release => exact ih h.dueRelease

theorem takeNext (h : Bounds s) : Bounds s.takeNext := by
  have idle := h.modIntake fun i => { i with hand := .idle, touched := [] }
  unfold State.takeNext
  dsimp only
  split
  · split
    · exact idle
    · split
      · split
        · exact idle.takeRecord _ _
        · exact idle
      · exact idle.modIntake _
  · exact idle

theorem itemEnd (h : Bounds s) (order : List ItemEndPart) : Bounds (s.itemEnd order) := by
  unfold State.itemEnd
  split
  · exact (h.itemEndParts _).takeNext
  · split
    · exact ((h.replyReading _).itemEndParts _).takeNext
    · exact h
  all_goals exact h

/-! ## Modes and resets -/

theorem toSetup (h : Bounds s) : Bounds s.toSetup := by
  have calmed : Bounds (s.mapZones fun _ z => { z.calm with record := none }) :=
    h.mapZones fun z => (h.zones z).calm.noRecord
  have emptied : Bounds (s.mapZones fun _ z => { z.calm with record := none }).emptyLists :=
    calmed.mapChannels fun _ => Nat.zero_le 4
  have abandoned := emptied.modChecker Checker.abandon
  unfold State.toSetup
  exact (abandoned.modAnalyser (f := fun a => { a with raced := [] }) abandoned.analysing).modCtl _

theorem enterSetup (h : Bounds s) : Bounds s.enterSetup := by
  unfold State.enterSetup
  split
  · exact h.refuse _ _
  · exact h.toSetup.answer _ _
  · have leaving := h.setWorking.modCtl fun c => { c with leaving := some { applied := 0, analysed := [] } }
    unfold State.beginLeaving
    dsimp only
    split
    · exact leaving.dueCommit
    · exact leaving

theorem endRecord (h : Bounds s) (zid : ZoneId) : Bounds (s.endRecord zid) := by
  unfold State.endRecord
  split
  · split
    · exact (h.handOutcome zid (h.zones zid).nSettle _ (cls := .ended) trivial).writeClose _ _ _
    · exact h
  · exact h

theorem leave (h : Bounds s) (l : Leaving) : Bounds (s.leave l) := by
  have ended : ∀ zs : List ZoneId, Bounds (zs.foldl State.endRecord s) := by
    intro zs
    induction zs generalizing s with
    | nil => exact h
    | cons z zs ih => exact ih (h.endRecord z)
  unfold State.leave
  exact (ended _).toSetup.answer _ _

theorem leaveSetup (h : Bounds s) : Bounds s.leaveSetup := by
  unfold State.leaveSetup
  split
  · split
    · exact h.answer _ _
    · exact ((h.modChecker _).modCtl _).answer _ _
  · exact h.refuse _ _

theorem restart (h : Bounds s) : Bounds s.restart := by
  have ended : Bounds s.endStarting := by
    unfold State.endStarting
    split
    · exact (h.modChecker _).modCtl _
    · exact h
  exact ended.setWorking.modCtl _

theorem restart_doubt {m : MeterSlot} (h : m.doubt ≤ 3) : m.restart.doubt ≤ 3 := by
  unfold MeterSlot.restart
  split
  · exact Nat.zero_le 3
  · exact h

theorem restartClear (h : Bounds s) : Bounds s.restartClear := by
  refine Bounds.gatesAfresh (Bounds.mapChannels (Bounds.mapMeters (Bounds.mapZones ?blocks fun z => ?_) fun m => ?_)
    fun _ => Nat.zero_le 4)
  case blocks =>
    exact { h with pendingTrim := show (-600 : Int) ≤ 0 ∧ (0 : Int) ≤ 600 by decide, stage := Nat.zero_le 8,
                   stageSlots := List.nodup_nil, analysing := nofun, findings := Nat.zero_le 32 }
  · exact (h.zones z).calm.noRecord
  · exact restart_doubt (h.doubt m)

/-! ## Zone requests -/

theorem writeZone (h : Bounds s) (zid : ZoneId) (x : ZoneSettings) : Bounds (s.writeZone zid x) := by
  unfold State.writeZone
  split
  · exact h.refuse _ _
  next passes =>
    exact (Bounds.holdEdges (h.modZone zid fun _ hz => hz.configure (nSettle_of_settingsFault passes)) s).answer _ _

theorem unconfigureZone (h : Bounds s) (zid : ZoneId) : Bounds (s.unconfigureZone zid) := by
  unfold State.unconfigureZone
  split
  · exact h.answer _ _
  · dsimp only
    split
    · exact h.answer _ _
    · exact (h.putZone zid ZoneBounds.reset).answer _ _

theorem setZone (h : Bounds s) (zone option : Byte) (x : ZoneSettings) : Bounds (s.setZone zone option x) := by
  unfold State.setZone
  split
  · split
    · exact h.refuse _ _
    · split
      · exact h.writeZone _ x
      · split
        · exact h.unconfigureZone _
        · exact h.refuse _ _
  · exact h.refuse _ _

theorem zoneGet (h : Bounds s) (zone : Byte) : Bounds (s.zoneGet zone) := by
  unfold State.zoneGet
  split
  · exact h.refuse _ _
  · exact Bounds.answer (h.modZone _ fun _ hz => hz.setLost false) _ _

theorem historyGet (h : Bounds s) (zone : Byte) : Bounds (s.historyGet zone) := by
  unfold State.historyGet
  split
  · exact h.refuse _ _
  · split
    · exact h.refuse _ _
    · exact h.answer _ _

theorem holdZone (h : Bounds s) (zone action : Byte) : Bounds (s.holdZone zone action) := by
  unfold State.holdZone
  split
  · exact h.refuse _ _
  · split
    · exact h.refuse _ _
    · split
      · exact h.refuse _ _
      · split
        · exact h.refuse _ _
        · exact (Bounds.holdEdges (h.modZone _ fun _ hz => hz.setHoldFlag _) s).answer _ _

theorem clearZone (h : Bounds s) (zone option : Byte) : Bounds (s.clearZone zone option) := by
  unfold State.clearZone
  split
  · exact h.refuse _ _
  · split
    · exact h.refuse _ _
    next zid _ =>
      dsimp only
      split
      · exact h.refuse _ _
      · split
        · exact h.refuse _ _
        · split
          · exact h.refuse _ _
          · split
            · exact h.answer _ _
            · exact (h.putZone zid ((h.zones zid).cleared option (h.zones zid).flowOk_newestCorrected)).answer _ _

theorem baselineGet (h : Bounds s) (zone : Byte) : Bounds (s.baselineGet zone) := by
  unfold State.baselineGet
  split
  · exact h.refuse _ _
  · split
    · exact h.refuse _ _
    · exact h.answer _ _

theorem baselinePut (h : Bounds s) (zone : Byte) (b sp : W32) (n : Byte) : Bounds (s.baselinePut zone b sp n) := by
  unfold State.baselinePut
  split
  · split
    · exact h.refuse _ _
    next zid _ =>
      dsimp only
      split
      · exact h.refuse _ _
      · split
        · exact h.refuse _ _
        · split
          · exact h.refuse _ _
          next passes =>
            obtain ⟨hb, hsp, hn⟩ := flows_of_baselineFault passes
            exact (h.putZone zid ((h.zones zid).putBaseline hb hsp hn)).answer _ _
  · exact h.refuse _ _

/-! ## Nights, pressure, findings and flags: their requests -/

theorem nightBins (h : Bounds s) (zid : ZoneId) (first : Nat) (body : NightRecord → List Byte) :
    Bounds (s.nightBins zid first body) := by
  unfold State.nightBins
  split
  · exact h.answer _ _
  · split
    · exact h.refuse _ _
    · exact h.answer _ _

theorem nightGet (h : Bounds s) (zone part firstBin : Byte) : Bounds (s.nightGet zone part firstBin) := by
  unfold State.nightGet
  split
  · exact h.refuse _ _
  · split
    · exact h.refuse _ _
    · split
      · exact h.answer _ _
      · split
        · exact h.refuse _ _
        · split
          · exact h.nightBins _ _ _
          · exact h.nightBins _ _ _

theorem addSample (h : Bounds s) {zid : ZoneId} {r : NightRecord} (hr : (s.zone zid).record = some r) (k : Nat) (v : W16) :
    Bounds (s.addSample zid r k v) := by
  unfold State.addSample
  dsimp only
  split
  next room =>
    have added := recordOk_addSample ((h.zones zid).recordOk hr) k v room
    exact Bounds.answer (h.modZone zid fun _ hz => hz.setRecord (by rintro _ ⟨⟩; exact added)) _ _
  next => exact h.answer _ _

theorem placeSample (h : Bounds s) (zid : ZoneId) (t : Nat) (v : W16) : Bounds (s.placeSample zid t v) := by
  unfold State.placeSample
  split
  · split
    · exact h.refuse _ _
    · exact h.answer _ _
  next r hr =>
    split
    · split
      · exact h.addSample hr _ v
      · exact h.refuse _ _
    · split
      · exact h.refuse _ _
      · exact h.answer _ _

theorem pressure (h : Bounds s) (zone : Byte) (t : W32) (v : W16) : Bounds (s.pressure zone t v) := by
  unfold State.pressure
  split
  · exact h.refuse _ _
  · split
    · exact h.refuse _ _
    · split
      · exact h.refuse _ _
      · split
        · exact h.refuse _ _
        · split
          · exact h.refuse _ _
          · exact h.placeSample _ _ v

theorem writeTable (h : Bounds s) (entries : Vector W16 17) : Bounds (s.writeTable entries) := by
  unfold State.writeTable
  split
  · exact (h.setTable entries).answer _ _
  · exact h.answer _ _

theorem findingsTake (h : Bounds s) (n : Byte) : Bounds (s.findingsTake n) := by
  unfold State.findingsTake
  split
  · refine Bounds.answer (h.setFindings ?_) _ _
    have := h.findings
    simp only [List.length_drop]
    omega
  · exact h.refuse _ _

theorem attnClear (h : Bounds s) (flags : Byte) : Bounds (s.attnClear flags) :=
  Bounds.answer ((h.unlatch flags).latch _) _ _

theorem attnEnable (h : Bounds s) (mask : Byte) : Bounds (s.attnEnable mask) := (h.modAttn _).answer _ _

/-! ## Time requests -/

theorem setClock (h : Bounds s) (t : W32) : Bounds (s.setClock t) := by
  unfold State.setClock
  split
  · have set := h.settle.modTime (f := (·.set t.toNat)) (h.settle.timeBounds.set t)
    exact Bounds.answer (set.mapChannels fun c => set.capture c) _ _
  · exact h.refuse _ _

theorem setGrid (h : Bounds s) (f : GridFields) : Bounds (s.setGrid f) := by
  unfold State.setGrid
  split
  · split
    · exact h.answer _ _
    next passes =>
      have set : TimeBounds { s.time with grid := gridOf f } :=
        { h.timeBounds with trimStep := trimStep_of_gridFault passes }
      exact Bounds.answer (h.modTime set) _ _
  · exact h.refuse _ _

theorem timeMark (h : Bounds s) (reference : W32) : Bounds (s.timeMark reference) := by
  unfold State.timeMark
  split
  · dsimp only
    split
    · exact (h.latch _).answer _ _
    next near =>
      have marked : TimeBounds { s.time with pendingTrim := s.markOffset reference } :=
        { h.timeBounds with pendingTrim := by simp only [Config.clockFarLimit] at near; dsimp only; omega }
      exact Bounds.answer (h.modTime marked) _ _
  · exact h.refuse _ _

end Bounds

end Sys2Proof.Safety

/-! ## The objects after power-on -/

namespace Sys2Proof.Machine.State

@[simp] theorem zone_reset (z : ZoneId) : State.reset.zone z = resetZone := by
  simp [State.reset, State.zone]

@[simp] theorem meter_reset (m : SlotId) : State.reset.meter m = resetMeter := by
  simp [State.reset, State.meter]

@[simp] theorem channel_reset (c : ChanId) : State.reset.channel c = resetChannel := by
  simp [State.reset, State.channel]

end Sys2Proof.Machine.State

namespace Sys2Proof.Safety

open Sys2Proof Machine

namespace Bounds

variable {s : State}

/-! ## Every command -/

theorem reset : Bounds State.reset where
  partTime := Nat.zero_le _
  pendingTrim := show (-600 : Int) ≤ 0 ∧ (0 : Int) ≤ 600 by decide
  trimStep := show 2 ≤ 4 by decide
  standstill := Nat.zero_le _
  stage := Nat.zero_le _
  stageSlots := List.nodup_nil
  capture c := by simp [resetChannel]
  doubt m := by simp [resetMeter]
  zones z := by simpa using ZoneBounds.reset
  analysing := nofun
  findings := Nat.zero_le _
  input := Nat.zero_le _

theorem powerUp (s : State) (rate1 rate0 resetLow : Bool) : Bounds (s.powerUp rate1 rate0 resetLow) := by
  have channels : Bounds { State.reset with
      channels := Vector.ofFn fun c => { resetChannel with pinHigh := (s.channel c).pinHigh } } :=
    reset.setChannels fun c => by simp [resetChannel]
  exact { channels with input := Nat.zero_le _ }

/-- Every command answers a next state, within the bounds when the state before it is. -/
theorem exec (h : Bounds s) (c : Instr) : ∃ t, Machine.exec c s = .next t ∧ Bounds t := by
  cases c with
  | secondTick order share => exact ⟨_, rfl, h.secondTick order share⟩
  | standstillEnd =>
    refine ⟨_, rfl, ?_⟩
    split
    · exact h.settle.modTime h.settle.timeBounds.tick
    · exact h
  | pinChange ch high micros => exact ⟨_, rfl, h.pinChange ch high micros⟩
  | statusLevelChange ch => exact ⟨_, rfl, h.statusLevelChange ch⟩
  | byteReceived e => exact ⟨_, rfl, h.receive e⟩
  | frameGapTimeout => exact ⟨_, rfl, h.modLink h.input⟩
  | replySent => exact ⟨_, rfl, h.replySent⟩
  | unknownKind ft kind body => exact ⟨_, rfl, h.request _ fun _ ht => ht.refuse _ _⟩
  | powerOn rate1 rate0 => exact ⟨_, rfl, powerUp s _ _ _⟩
  | pinReset rate1 rate0 => exact ⟨_, rfl, powerUp s _ _ _⟩
  | statusGet ft => exact ⟨_, rfl, h.request _ fun _ ht => ht.answer _ _⟩
  | enterSetup ft => exact ⟨_, rfl, h.request _ fun _ ht => ht.enterSetup⟩
  | leavingPhaseEnd =>
    refine ⟨_, rfl, ?_⟩
    split
    · split
      · exact h.leave _
      · exact h
    · exact h
  | leaveSetup ft => exact ⟨_, rfl, h.request _ fun _ ht => ht.leaveSetup⟩
  | restart ft => exact ⟨_, rfl, h.request _ fun _ ht => ht.restart⟩
  | restartClear =>
    refine ⟨_, rfl, ?_⟩
    split
    · exact Bounds.answer (h.restartClear.modAttn _) _ _
    · exact h
  | setClock ft time => exact ⟨_, rfl, h.request _ fun _ ht => ht.setClock time⟩
  | setGrid ft grid => exact ⟨_, rfl, h.request _ fun _ ht => ht.setGrid grid⟩
  | timeMark ft reference => exact ⟨_, rfl, h.request _ fun _ ht => ht.timeMark reference⟩
  | setZone ft zone option x => exact ⟨_, rfl, h.request _ fun _ ht => ht.setZone zone option x⟩
  | setZoneUnconfigure ft zone x => exact ⟨_, rfl, h.request _ fun _ ht => ht.setZone zone 1 x⟩
  | zoneGet ft zone => exact ⟨_, rfl, h.request _ fun _ ht => ht.zoneGet zone⟩
  | nightGetSummary ft zone part firstBin => exact ⟨_, rfl, h.request _ fun _ ht => ht.nightGet zone part firstBin⟩
  | nightGetVolumes ft zone firstBin => exact ⟨_, rfl, h.request _ fun _ ht => ht.nightGet zone 1 firstBin⟩
  | nightGetPressure ft zone firstBin => exact ⟨_, rfl, h.request _ fun _ ht => ht.nightGet zone 2 firstBin⟩
  | historyGet ft zone => exact ⟨_, rfl, h.request _ fun _ ht => ht.historyGet zone⟩
  | holdZoneSet ft zone action => exact ⟨_, rfl, h.request _ fun _ ht => ht.holdZone zone action⟩
  | holdZoneRelease ft zone => exact ⟨_, rfl, h.request _ fun _ ht => ht.holdZone zone 1⟩
  | clearZoneRelearn ft zone option => exact ⟨_, rfl, h.request _ fun _ ht => ht.clearZone zone option⟩
  | clearZoneRebase ft zone => exact ⟨_, rfl, h.request _ fun _ ht => ht.clearZone zone 1⟩
  | clearZoneKeep ft zone => exact ⟨_, rfl, h.request _ fun _ ht => ht.clearZone zone 2⟩
  | baselineGet ft zone => exact ⟨_, rfl, h.request _ fun _ ht => ht.baselineGet zone⟩
  | baselinePut ft zone b sp n => exact ⟨_, rfl, h.request _ fun _ ht => ht.baselinePut zone b sp n⟩
  | stageMeter ft slot b => exact ⟨_, rfl, h.request _ fun _ ht => ht.stageMeter slot b⟩
  | commitStage ft => exact ⟨_, rfl, h.request _ fun _ ht => ht.commitStage⟩
  | discardStage ft => exact ⟨_, rfl, h.request _ fun _ ht => ht.discardStage⟩
  | meterGet ft slot => exact ⟨_, rfl, h.request _ fun _ ht => ht.meterGet slot⟩
  | meterRelease ft slot => exact ⟨_, rfl, h.request _ fun _ ht => ht.meterRelease slot⟩
  | setChannel ft ch mode divider gateLine timing restartMode =>
    exact ⟨_, rfl, h.request _ fun _ ht => ht.setChannel ch mode divider gateLine timing restartMode⟩
  | channelGet ft ch => exact ⟨_, rfl, h.request _ fun _ ht => ht.channelGet ch⟩
  | gateChannelSet ft ch action => exact ⟨_, rfl, h.request _ fun _ ht => ht.gateChannel ch action⟩
  | gateChannelRelease ft ch => exact ⟨_, rfl, h.request _ fun _ ht => ht.gateChannel ch 1⟩
  | reading ft slot tag pair => exact ⟨_, rfl, h.request _ fun _ ht => ht.offerReading slot tag false [pair]⟩
  | readingBatch ft slot tag pairs => exact ⟨_, rfl, h.request _ fun _ ht => ht.offerReading slot tag true pairs⟩
  | readingPair => exact ⟨_, rfl, h.readingPair⟩
  | captureRecord ch => exact ⟨_, rfl, h.captureItem ch false⟩
  | resumeRecord ch => exact ⟨_, rfl, h.captureItem ch true⟩
  | intakeItemEnd order => exact ⟨_, rfl, h.itemEnd order⟩
  | pressure ft zone time value => exact ⟨_, rfl, h.request _ fun _ ht => ht.pressure zone time value⟩
  | setPressureTable ft entries => exact ⟨_, rfl, h.request _ fun _ ht => ht.writeTable entries⟩
  | pressureTableQuery ft => exact ⟨_, rfl, h.request _ fun _ ht => ht.answer _ _⟩
  | analyserTakeZone pick =>
    refine ⟨_, rfl, ?_⟩
    split
    · exact h
    · split
      · exact h
      · exact h.takeZone _
  | nightAnalysisEnd => exact ⟨_, rfl, h.analysisEnd⟩
  | findingsTake ft n => exact ⟨_, rfl, h.request _ fun _ ht => ht.findingsTake n⟩
  | attnGet ft => exact ⟨_, rfl, h.request _ fun _ ht => ht.answer _ _⟩
  | attnClear ft flags => exact ⟨_, rfl, h.request _ fun _ ht => ht.attnClear flags⟩
  | attnEnable ft mask => exact ⟨_, rfl, h.request _ fun _ ht => ht.attnEnable mask⟩
  | entryRaw ft kind number => exact ⟨_, rfl, h.request _ fun _ ht => ht.entryRaw kind number⟩
  | checkPass ft => exact ⟨_, rfl, h.request _ fun _ ht => ht.checkPass⟩
  | checkPassVerify =>
    refine ⟨_, rfl, ?_⟩
    split
    · exact h
    · exact h.passVerify _
  | resetPinLow => exact ⟨_, rfl, h.modLink h.input⟩

end Bounds

/-- Settles O58: each command keeps the bounds (`Bounds.exec`), and so does idling. -/
theorem everyStepKeepsBounds : Obligations.EveryStepKeepsBounds := by
  intro s t h hstep
  unfold step at hstep
  split at hstep
  · cases hstep
    exact h.settle
  next c rest _ =>
    obtain ⟨u, hu, bounds⟩ := (h.setPending rest).exec c
    rw [hu] at hstep
    cases hstep
    exact bounds

end Sys2Proof.Safety

/-! ## The tick of the time base (R1, R3) -/

namespace Sys2Proof.Machine.State

open Sys2Proof

variable {s : State}

/-- A tick in a standstill takes a second from it and holds part time (R12). -/
theorem tick_of_standstill (h : 0 < s.time.standstill) :
    s.tick = { s with time := { s.time with standstill := s.time.standstill - 1, divider := 0 } } := by
  have still : s.time.advances = false := by simp [TimeBase.advances, Nat.ne_of_gt h]
  simp [State.tick, State.modTime, still, TimeBase.tick, h]

/-- At time end part time holds (R1). -/
theorem tick_of_timeEnd (hs : s.time.standstill = 0) (he : s.time.partTime = 4294967295) :
    s.tick = { s with time := { s.time with divider := 0 } } := by
  have still : s.time.advances = false := by simp [TimeBase.advances, Config.timeEnd, he]
  simp [State.tick, State.modTime, still, TimeBase.tick, Config.timeEnd, hs, he]

/-- A tick that advances part time to a time that is no boundary (R1). -/
theorem tick_of_not_boundary (hs : s.time.standstill = 0) (he : s.time.partTime < 4294967295)
    (hb : (s.time.partTime + 1) % (s.time.grid.interval * 60) ≠ 0) :
    s.tick = { s with time := { s.time with partTime := s.time.partTime + 1, divider := 0 } } := by
  have ticked : s.time.tick = { s.time with partTime := s.time.partTime + 1, divider := 0 } := by
    simp [TimeBase.tick, Config.timeEnd, hs, he]
  have none : s.time.grid.isBoundary (s.time.partTime + 1) = false := decide_eq_false hb
  simp [State.tick, State.modTime, ticked, none]

/-- A tick that advances part time onto a boundary raises its event (R3). -/
theorem tick_of_boundary (hs : s.time.standstill = 0) (he : s.time.partTime < 4294967295)
    (hb : (s.time.partTime + 1) % (s.time.grid.interval * 60) = 0) :
    s.tick = { s with time := { s.time with
      partTime := s.time.partTime + 1, divider := 0,
      boundary := some (s.time.grid.eventAt (s.time.partTime + 1)).begin } } := by
  have ticked : s.time.tick = { s.time with partTime := s.time.partTime + 1, divider := 0 } := by
    simp [TimeBase.tick, Config.timeEnd, hs, he]
  have advances : s.time.advances = true := by simp [TimeBase.advances, Config.timeEnd, hs, he]
  have event : s.time.grid.isBoundary (s.time.partTime + 1) = true := decide_eq_true hb
  simp [State.tick, State.modTime, ticked, advances, event]

/-- A second whose tick leaves no event in delivery is that tick, in full or in part. -/
theorem secondTick_of_no_event (order : List BoundaryPart) {share : SecondShare} (hw : share = .whole ∨ share = .start)
    (hb : s.time.boundary = none) (ht : s.tick.time.boundary = none) : s.secondTick order share = s.tick := by
  have settled := Laws.settle_of_none hb
  have worked := Laws.boundaryParts_of_none order ht
  rcases hw with rfl | rfl
  · simp only [State.secondTick, settled, worked, Laws.settle_of_none ht]
  · simp only [State.secondTick, settled, worked]

/-- With no event in delivery there is no second to go on with (log 2). -/
theorem secondTick_rest_of_no_event (order : List BoundaryPart) {share : SecondShare} (hr : share = .more ∨ share = .rest)
    (hb : s.time.boundary = none) : s.secondTick order share = s := by
  have worked := Laws.boundaryParts_of_none order hb
  rcases hr with rfl | rfl
  · exact worked
  · simp only [State.secondTick, worked, Laws.settle_of_none hb]

end Sys2Proof.Machine.State

/-! ## The statements of the time base without a boundary event -/

namespace Sys2Proof.Proofs

open Sys2Proof Machine Safety

/-- Settles O2: an idle step is the settling of the event, if any. -/
theorem stepOnEmptyQueue : Obligations.StepOnEmptyQueue := by
  intro s hs
  have idles : step s = .next s.settle := by simp only [step, hs]; rfl
  refine ⟨fun hb => ?_, idles⟩
  rw [idles, Laws.settle_of_none hb]

/-- Settles O3, by the four cases of a tick and by the composition of the parts of one second. -/
theorem tickAwayFromBoundaries : Obligations.TickAwayFromBoundaries := by
  refine ⟨fun order share s hb => ⟨fun hw => ?_, fun hr => ?_, fun h1 => ?_, fun h1 => ?_⟩, fun order s => ?_⟩
  · have ticks : s.tick.time.boundary = none → exec (.secondTick order share) s = .next s.tick := fun ht =>
      congrArg Host.Outcome.next (s.secondTick_of_no_event order hw hb ht)
    refine ⟨fun hs => ?_, fun hs he => ?_, fun hs he hm => ?_⟩
    · rw [State.tick_of_standstill hs] at ticks
      exact ticks hb
    · rw [State.tick_of_timeEnd hs he] at ticks
      exact ticks hb
    · rw [State.tick_of_not_boundary hs he hm] at ticks
      exact ticks hb
  · exact congrArg Host.Outcome.next (s.secondTick_rest_of_no_event order hr hb)
  · have ticked : s.time.tick = { s.time with standstill := 0, divider := 0 } := by simp [TimeBase.tick, h1]
    show execStandstillEnd s = _
    simp [execStandstillEnd, Laws.settle_of_none hb, h1, State.modTime, ticked]
  · show execStandstillEnd s = _
    simp [execStandstillEnd, Laws.settle_of_none hb, h1]
  · refine ⟨s.settle.tick.boundaryParts order, rfl, fun order' => ?_⟩
    have parts := Laws.boundaryParts_append s.settle.tick order order'
    constructor
    · show Host.Outcome.next ((State.boundaryParts _ order').settle) = .next ((State.boundaryParts _ _).settle)
      rw [parts]
    · show Host.Outcome.next (State.boundaryParts _ order') = .next (State.boundaryParts _ _)
      rw [parts]

/-! ## The requests of the time base -/

/-- A free request, once its row runs its owner. -/
theorem exec_of_free {c : Instr} {f : Frame} {s : State} (act : State → State)
    (hc : exec c s = .next (s.request c act)) (hf : encodeRequest c = some f) (h : Free s f) :
    exec c s = .next (act (s.inHand f)) := by rw [hc, State.request_free act hf h]

/-- Settling leaves the link alone. -/
theorem settle_link_eq (s : State) : s.settle.link = s.link := by
  unfold State.settle
  split
  · rfl
  · rw [State.link_modTime, Laws.boundaryParts_onlyBoundary s allParts]

/-- An event is settled with a request in hand as without it. -/
theorem settle_inHand (s : State) (f : Frame) : (s.inHand f).settle = s.settle.inHand f := by
  unfold State.inHand State.modLink
  rw [settle_link_eq]
  exact Laws.settle_link s _

/-- Settles O7: the request in hand does not show in the settling of an event. -/
theorem setClockSetsPartTime : Obligations.SetClockSetsPartTime := by
  intro ft time s f hf hfree
  have taken := exec_of_free (fun t => t.setClock time) rfl hf hfree
  refine ⟨fun hm => ⟨s.settle, rfl, Laws.settle_of_none, ?_⟩, fun hm => ?_⟩
  · have set : (s.inHand f).setClock time =
        (((s.inHand f).settle.modTime (·.set time.toNat)).mapChannels fun _ c => c.redate time.toNat).answer .ok
          (be32 time) := if_pos hm
    have pin : s.settle.link.resetLow = false := by rw [settle_link_eq]; exact hfree.1
    rw [taken, set, settle_inHand, State.answer_inHand (s := s.settle) (f := f) .ok (be32 time) (by rfl) pin]
    rfl
  · have refused : (s.inHand f).setClock time = (s.inHand f).refuse .wrongState 0 := if_neg hm
    rw [taken, refused, State.refuse_inHand _ _ hfree.1]
    rfl

/-! ## SET-GRID -/

theorem firstFailing_cons (item : Nat) (passes : Bool) (tests : List (Nat × Bool)) :
    firstFailing ((item, passes) :: tests) = if passes then firstFailing tests else some item := by
  cases passes <;> rfl

theorem intervalOk_iff (g : Grid) : intervalOk g = true ↔
    (g.interval = 5 ∨ g.interval = 10 ∨ g.interval = 15 ∨ g.interval = 20 ∨ g.interval = 30) := by
  simp [intervalOk]

theorem windowStartOk_iff (g : Grid) : windowStartOk g = true ↔
    (g.windowStart ≤ 86399 ∧ g.windowStart % (g.interval * 60) = 0) := by
  simp only [windowStartOk, Bool.and_eq_true, decide_eq_true_eq]
  rfl

theorem windowLengthOk_iff (g : Grid) : windowLengthOk g = true ↔
    (60 ≤ g.windowLength ∧ g.windowLength ≤ 480 ∧ g.windowLength % g.interval = 0 ∧
      60 / g.interval ≤ g.windowLength / g.interval ∧ g.windowLength / g.interval ≤ 32) := by
  simp only [windowLengthOk, Bool.and_eq_true, decide_eq_true_eq, and_assoc]
  rfl

theorem closeDelayOk_iff (g : Grid) : closeDelayOk g = true ↔
    (60 ≤ g.closeDelay ∧ g.closeDelay ≤ 1200 ∧ g.closeDelay % g.interval = 0 ∧
      g.windowLength + g.closeDelay ≤ 1320) := by
  simp only [closeDelayOk, Bool.and_eq_true, decide_eq_true_eq, and_assoc]

theorem spanLimitOk_iff (g : Grid) : spanLimitOk g = true ↔ (900 ≤ g.spanLimit ∧ g.spanLimit ≤ 86400) := by
  simp only [spanLimitOk, Bool.and_eq_true, decide_eq_true_eq]

theorem trimStepOk_iff (g : Grid) : trimStepOk g = true ↔ (1 ≤ g.trimStep ∧ g.trimStep ≤ 4) := by
  simp only [trimStepOk, Bool.and_eq_true, decide_eq_true_eq]

/-- The tests of SET-GRID are the table of 1.4, setting by setting (R8). -/
theorem gridFault_gridOf (g : GridFields) : (gridFault (gridOf g)).map (BitVec.ofNat 8) = gridItem g := by
  simp only [gridFault, firstFailing_cons, intervalOk_iff, windowStartOk_iff, windowLengthOk_iff, closeDelayOk_iff,
    spanLimitOk_iff, trimStepOk_iff, gridItem, ite_not, apply_ite (Option.map (BitVec.ofNat 8))]
  rfl

/-- The fields of SET-GRID, encoded again, are the body of its frame (R183, R184). -/
theorem gridBytes_gridOf {ft : Byte} {g : GridFields} {f : Frame} (hf : encodeRequest (.setGrid ft g) = some f) :
    gridBytes (gridOf g) = f.body := by
  cases hf
  simp [gridBytes, gridOf, enc8, enc16, enc32]

/-- Settles O8: by mode, and by the first setting that fails. -/
theorem setGridReplacesOrRefuses : Obligations.SetGridReplacesOrRefuses := by
  intro ft g s f hf hfree
  have taken := exec_of_free (fun t => t.setGrid g) rfl hf hfree
  refine ⟨fun hm hg => ?_, fun item hm hg => ?_, fun hm => ?_⟩
  · have passes : gridFault (gridOf g) = none := by rw [← gridFault_gridOf] at hg; simpa using hg
    have replaced : (s.inHand f).setGrid g =
        ((s.inHand f).modTime fun b => { b with grid := gridOf g }).answer .ok (gridBytes (gridOf g)) := by
      rw [State.setGrid, if_pos (show (s.inHand f).mode = .setup from hm), passes]
    rw [taken, replaced, State.answer_inHand (s := s) (f := f) _ _ (by rfl) hfree.1, gridBytes_gridOf hf]
    rfl
  · obtain ⟨offset, fails, rfl⟩ : ∃ offset, gridFault (gridOf g) = some offset ∧ BitVec.ofNat 8 offset = item := by
      rw [← gridFault_gridOf] at hg; simpa using hg
    have refused : (s.inHand f).setGrid g =
        (s.inHand f).answer .range (itemDetail offset ++ gridBytes s.time.grid) := by
      rw [State.setGrid, if_pos (show (s.inHand f).mode = .setup from hm), fails]; rfl
    rw [taken, refused, State.answer_inHand (s := s) (f := f) _ _ (by rfl) hfree.1]
    rfl
  · have refused : (s.inHand f).setGrid g = (s.inHand f).refuse .wrongState 0 := if_neg hm
    rw [taken, refused, State.refuse_inHand _ _ hfree.1]
    rfl

/-! ## TIME-MARK -/

/-- An offset that fits its field stands there in two's complement (R184). -/
theorem offsetBytes_of_fits {x : Int} (h : -2147483648 ≤ x ∧ x ≤ 2147483647) :
    offsetBytes x = be32 (BitVec.ofInt 32 x) := if_pos h

/-- The offset field of a reply, whatever the offset (log 17). -/
theorem offsetBytes_field (x : Int) : ∃ field : W32,
    (-2147483648 ≤ x → x ≤ 2147483647 → field = BitVec.ofInt 32 x) ∧ offsetBytes x = be32 field := by
  by_cases h : -2147483648 ≤ x ∧ x ≤ 2147483647
  · exact ⟨_, fun _ _ => rfl, offsetBytes_of_fits h⟩
  · exact ⟨Config.offsetBeyondField x, fun lo hi => absurd ⟨lo, hi⟩ h, if_neg h⟩

/-- Settles O9: by whether the offset is within 600 of 0. -/
theorem timeMarkSetsPendingTrim : Obligations.TimeMarkSetsPendingTrim := by
  intro ft ref s f offset hf hfree hoffset
  have taken := exec_of_free (fun t => t.timeMark ref) rfl hf hfree
  have offset_eq : (s.inHand f).markOffset ref = offset := hoffset.symm
  refine ⟨fun hm lo hi => ?_, fun hm far => ?_, fun hm => ?_⟩
  · have near : ¬(Config.clockFarLimit < offset ∨ offset < -Config.clockFarLimit) := by
      simp only [Config.clockFarLimit]; omega
    have marked : (s.inHand f).timeMark ref =
        ((s.inHand f).modTime fun b => { b with pendingTrim := offset }).answer .ok
          (timeMarkBytes s.time.partTime offset) := by
      rw [State.timeMark, if_pos (show (s.inHand f).mode = .run from hm), offset_eq]; exact if_neg near
    rw [taken, marked, State.answer_inHand (s := s) (f := f) _ _ (by rfl) hfree.1, timeMarkBytes,
      offsetBytes_of_fits (by omega)]
    rfl
  · have beyond : Config.clockFarLimit < offset ∨ offset < -Config.clockFarLimit := by
      simp only [Config.clockFarLimit]; omega
    have refused : (s.inHand f).timeMark ref =
        ((s.inHand f).latch flagClock).answer .clockFar (itemDetail 0 ++ timeMarkBytes s.time.partTime offset) := by
      rw [State.timeMark, if_pos (show (s.inHand f).mode = .run from hm), offset_eq]; exact if_pos beyond
    obtain ⟨field, fits, bytes⟩ := offsetBytes_field offset
    refine ⟨field, fits, ?_⟩
    rw [taken, refused, State.answer_inHand (s := s) (f := f) _ _ (by rfl) hfree.1, timeMarkBytes, bytes, ← List.append_assoc]
    rfl
  · have refused : (s.inHand f).timeMark ref = (s.inHand f).refuse .wrongState 0 := if_neg hm
    rw [taken, refused, State.refuse_inHand _ _ hfree.1]
    rfl

end Sys2Proof.Proofs

/-! ## The state after power-on (O60) -/

namespace Sys2Proof.Proofs

open Sys2Proof Machine Safety

theorem closingSet_reset : State.reset.closingSet = [] := by
  have open_ : resetZone.isClosing = false := rfl
  simp [State.closingSet, open_]

theorem faultedCount_reset : State.reset.faultedCount = 0 := by
  simp [State.faultedCount, State.reset, Vector.toList_replicate, resetZone, resetMeter]

theorem entryMatches_reset (e : Subject) : State.reset.entryMatches e = true := by
  cases e with
  | zone z => simp [State.entryMatches, resetZone]
  | meter m => simp [State.entryMatches, resetMeter]

/-- No slot bound: the law of R19 has nothing to say. -/
theorem tableOk_none : TableOk fun _ => none :=
  ⟨nofun, nofun, nofun, fun z => by simp⟩

theorem tableOf_reset : tableOf State.reset = fun _ => none := by
  funext m
  simp [tableOf, resetMeter]

theorem onlyInRun_reset : OnlyInRun State.reset :=
  ⟨fun _ z => by simp [resetZone], fun _ c => by simp [resetChannel]⟩

theorem channelsLawful_reset : ChannelsLawful State.reset := fun c => by
  rw [State.channel_reset]
  constructor <;> simp [resetChannel]

theorem recordLaw_reset : RecordLaw State.reset where
  agrees z _ _ := by simp [resetZone]
  outOfService z _ := by simp [resetZone]
  inService hm := nomatch hm

theorem meterTableLaw_reset : MeterTableLaw State.reset where
  table := by rw [tableOf_reset]; exact tableOk_none
  staged := nofun
  committed := nofun

theorem captureLaw_reset : CaptureLaw State.reset where
  delivery := nofun
  order x := by simp [resetChannel]
  resumes x := by simp [resetChannel]
  past x := by simp [resetChannel]
  gates x := by simp [resetChannel]

/-- Settles O60: the fields are those of the definition, and each invariant has a lemma of its own. -/
theorem resetStateIsAsStated : Obligations.ResetStateIsAsStated := by
  refine ⟨rfl, rfl, rfl, rfl, rfl, rfl, rfl, rfl, rfl, rfl, rfl, rfl, rfl, rfl, rfl, rfl, closingSet_reset,
    faultedCount_reset, fun m => ?_, fun z => ?_, fun x => ?_, Bounds.reset, onlyInRun_reset, channelsLawful_reset,
    recordLaw_reset, meterTableLaw_reset, captureLaw_reset⟩
  · rw [State.meter_reset]
    exact ⟨rfl, rfl, entryMatches_reset _⟩
  · rw [State.zone_reset]
    exact ⟨rfl, rfl, rfl, rfl, rfl, rfl, rfl, entryMatches_reset _⟩
  · rw [State.channel_reset]
    exact ⟨rfl, rfl, rfl, rfl⟩

end Sys2Proof.Proofs

/-! ## The delivery of a boundary event, part by part -/

namespace Sys2Proof.Machine

open Sys2Proof Laws

/-- What is left of the work of a boundary event after one part; `run` says whether the mode is RUN (R153). -/
def BoundaryWork.after (run : Bool) (w : BoundaryWork) : BoundaryPart → BoundaryWork
  | .channel c => { w with channels := w.channels.erase c }
  | .stage => { w with stage := false }
  | .analyser => { w with analyser := false }
  | .verify => { w with verifies := if w.verifies = scrubCount ∧ run = false then 0 else w.verifies - 1 }

/-- What is left of the work after parts worked one after another. -/
def BoundaryWork.afterAll (run : Bool) (w : BoundaryWork) (order : List BoundaryPart) : BoundaryWork :=
  order.foldl (BoundaryWork.after run) w

namespace BoundaryWork

variable (run : Bool) (w : BoundaryWork)

@[simp] theorem afterAll_nil : w.afterAll run [] = w := rfl

@[simp] theorem afterAll_cons (p : BoundaryPart) (order : List BoundaryPart) :
    w.afterAll run (p :: order) = (w.after run p).afterAll run order := rfl

@[simp] theorem after_event (p : BoundaryPart) : (w.after run p).event = w.event := by cases p <;> rfl

@[simp] theorem after_analyser (p : BoundaryPart) :
    (w.after run p).analyser = (w.analyser && decide (p ≠ .analyser)) := by
  cases p <;> simp [after]

@[simp] theorem after_stage (p : BoundaryPart) : (w.after run p).stage = (w.stage && decide (p ≠ .stage)) := by
  cases p <;> simp [after]

theorem after_verifies_le (p : BoundaryPart) :
    (w.after run p).verifies ≤ w.verifies - if p = .verify then 1 else 0 := by
  cases p with
  | verify =>
    simp only [after, if_true]
    split
    · exact Nat.zero_le _
    · exact Nat.le_refl _
  | channel | stage | analyser => simp [after]

/-- The analyser's part is left exactly when it was due and was not named. -/
theorem afterAll_analyser (order : List BoundaryPart) :
    (w.afterAll run order).analyser = (w.analyser && decide (.analyser ∉ order)) := by
  induction order generalizing w with
  | nil => simp
  | cons p order ih => simp [ih, Bool.and_assoc, eq_comm (a := BoundaryPart.analyser)]

/-- The stage's part is left exactly when it was due and was not named. -/
theorem afterAll_stage (order : List BoundaryPart) :
    (w.afterAll run order).stage = (w.stage && decide (.stage ∉ order)) := by
  induction order generalizing w with
  | nil => simp
  | cons p order ih => simp [ih, Bool.and_assoc, eq_comm (a := BoundaryPart.stage)]

/-- Each verification named takes one off those left. -/
theorem afterAll_verifies_le (order : List BoundaryPart) :
    (w.afterAll run order).verifies ≤ w.verifies - order.count .verify := by
  induction order generalizing w with
  | nil => simp
  | cons p order ih =>
    have rest := ih (w.after run p)
    have first := w.after_verifies_le run p
    simp only [List.count_cons, beq_iff_eq]
    rw [afterAll_cons]
    omega

theorem mem_allParts_stage : BoundaryPart.stage ∈ allParts := by simp [allParts]

theorem mem_allParts_analyser : BoundaryPart.analyser ∈ allParts := by simp [allParts]

theorem count_allParts_verify : scrubCount ≤ allParts.count .verify := by decide

/-- After every part, the stage and the analyser have had theirs and no verification is left. -/
theorem afterAll_allParts (order : List BoundaryPart) (h : w.verifies ≤ scrubCount) :
    (w.afterAll run (order ++ allParts)).stage = false ∧ (w.afterAll run (order ++ allParts)).analyser = false ∧
      (w.afterAll run (order ++ allParts)).verifies = 0 := by
  refine ⟨?_, ?_, ?_⟩
  · simp [afterAll_stage, mem_allParts_stage]
  · simp [afterAll_analyser, mem_allParts_analyser]
  · have := w.afterAll_verifies_le run (order ++ allParts)
    have := count_allParts_verify
    simp only [List.count_append] at *
    omega

end BoundaryWork

namespace State

/-- Whether the mode is RUN. -/
def running (s : State) : Bool := decide (s.mode = .run)

/-- The verification of the scrub that is next in the work w, with the pointer moved by the last (R153). -/
def scrubStep (s : State) (w : BoundaryWork) : State :=
  let seen := (s.setBoundary { w with verifies := w.verifies - 1 }).verify
    (entryOf (s.checker.scrub + Fin.ofNat 176 (scrubCount - w.verifies)))
  if w.verifies = 1 then seen.modChecker fun c => { c with scrub := c.scrub + Fin.ofNat 176 scrubCount } else seen

/-- A property of the states of a delivery that begins in s, each with the work it has left, that every part of the event
keeps. -/
structure KeptInDelivery (s : State) (P : State → BoundaryWork → Prop) : Prop where
  channel : ∀ u w c, OnlyBoundary s u → P u w → c ∈ w.channels →
    P ((u.setBoundary { w with channels := w.channels.erase c }).channelBoundary w.event.time c)
      { w with channels := w.channels.erase c }
  stage : ∀ u w, OnlyBoundary s u → P u w → w.stage = true →
    P (u.setBoundary { w with stage := false }).stageBoundary { w with stage := false }
  analyser : ∀ u w, OnlyBoundary s u → P u w → w.analyser = true →
    P ((u.setBoundary { w with analyser := false }).analyserBoundary w.event.mark) { w with analyser := false }
  skip : ∀ u w, OnlyBoundary s u → P u w → w.verifies = scrubCount → s.mode ≠ .run →
    P (u.setBoundary { w with verifies := 0 }) { w with verifies := 0 }
  verify : ∀ u w, OnlyBoundary s u → P u w → w.verifies ≠ 0 → (w.verifies = scrubCount → s.mode = .run) →
    P (u.scrubStep w) { w with verifies := w.verifies - 1 }

variable {s u : State} {w : BoundaryWork} {P : State → BoundaryWork → Prop}

theorem mode_of_onlyBoundary (h : OnlyBoundary s u) : u.mode = s.mode := by rw [h]; rfl

@[simp] theorem time_verify (s : State) (e : Subject) : (s.verify e).time = s.time := by rw [verify_onlyFault s e]

@[simp] theorem time_channelBoundary (s : State) (b : Nat) (x : ChanId) : (s.channelBoundary b x).time = s.time := by
  rw [channelBoundary_onlyCapture s b x]

@[simp] theorem time_stageBoundary (s : State) : s.stageBoundary.time = s.time := by
  unfold State.stageBoundary
  split
  · split
    · rw [applyCommit_onlyCommit s]
    · rfl
  · rfl

@[simp] theorem time_analyserBoundary (s : State) (mark : Option GridMark) :
    (s.analyserBoundary mark).time = s.time := by
  cases mark with
  | none => rfl
  | some gm => simp only [State.analyserBoundary, State.time_mapZones]

@[simp] theorem time_scrubStep (s : State) (w : BoundaryWork) :
    (s.scrubStep w).time = (s.setBoundary { w with verifies := w.verifies - 1 }).time := by
  unfold scrubStep
  dsimp only
  split
  · rw [State.time_modChecker, time_verify]
  · rw [time_verify]

@[simp] theorem boundary_setBoundary (s : State) (w : BoundaryWork) : (s.setBoundary w).time.boundary = some w := rfl

/-! ### One part of the event in delivery, named once for each kind -/

theorem boundaryPart_channel (hb : u.time.boundary = some w) {c : ChanId} (hc : c ∈ w.channels) :
    u.boundaryPart (.channel c) =
      (u.setBoundary { w with channels := w.channels.erase c }).channelBoundary w.event.time c := by
  simp [State.boundaryPart, hb, hc]

theorem boundaryPart_stage (hb : u.time.boundary = some w) (hw : w.stage = true) :
    u.boundaryPart .stage = (u.setBoundary { w with stage := false }).stageBoundary := by
  simp [State.boundaryPart, hb, hw]

theorem boundaryPart_analyser (hb : u.time.boundary = some w) (hw : w.analyser = true) :
    u.boundaryPart .analyser = (u.setBoundary { w with analyser := false }).analyserBoundary w.event.mark := by
  simp [State.boundaryPart, hb, hw]

/-- Outside RUN the checker takes the event and makes no verification. -/
theorem boundaryPart_skip (hb : u.time.boundary = some w) (hw : w.verifies = scrubCount) (hm : u.mode ≠ .run) :
    u.boundaryPart .verify = u.setBoundary { w with verifies := 0 } := by
  simp [State.boundaryPart, hb, State.scrubVerify, hw, hm, scrubCount]

theorem boundaryPart_verify (hb : u.time.boundary = some w) (hw : w.verifies ≠ 0)
    (hm : w.verifies = scrubCount → u.mode = .run) : u.boundaryPart .verify = u.scrubStep w := by
  have makes : ¬(w.verifies = scrubCount ∧ u.mode ≠ .run) := fun ⟨h16, hrun⟩ => hrun (hm h16)
  simp only [State.boundaryPart, hb, State.scrubVerify, if_neg hw, if_neg makes]
  rfl

/-- A part that is done already is passed over, and leaves the same work. -/
theorem boundaryPart_of_done (hb : u.time.boundary = some w) {run : Bool} {p : BoundaryPart}
    (hp : match p with
      | .channel c => c ∉ w.channels
      | .stage => w.stage = false
      | .analyser => w.analyser = false
      | .verify => w.verifies = 0) : u.boundaryPart p = u ∧ w.after run p = w := by
  obtain ⟨event, channels, stage, analyser, verifies⟩ := w
  cases p with
  | channel c => simp_all [State.boundaryPart, BoundaryWork.after, List.erase_of_not_mem]
  | stage => simp_all [State.boundaryPart, BoundaryWork.after]
  | analyser => simp_all [State.boundaryPart, BoundaryWork.after]
  | verify => simp_all [State.boundaryPart, BoundaryWork.after, State.scrubVerify]

/-- One part of the event in delivery: the property is kept, and the work left is that of `BoundaryWork.after`. -/
theorem KeptInDelivery.part (h : KeptInDelivery s P) (only : OnlyBoundary s u) (hb : u.time.boundary = some w)
    (hP : P u w) (p : BoundaryPart) :
    (u.boundaryPart p).time.boundary = some (w.after s.running p) ∧ P (u.boundaryPart p) (w.after s.running p) := by
  have passed : u.boundaryPart p = u ∧ w.after s.running p = w →
      (u.boundaryPart p).time.boundary = some (w.after s.running p) ∧ P (u.boundaryPart p) (w.after s.running p) := by
    rintro ⟨same, left⟩
    rw [same, left]
    exact ⟨hb, hP⟩
  cases p with
  | channel c =>
    by_cases hc : c ∈ w.channels
    · rw [boundaryPart_channel hb hc]
      exact ⟨by simp [BoundaryWork.after], h.channel u w c only hP hc⟩
    · exact passed (boundaryPart_of_done hb hc)
  | stage =>
    cases hw : w.stage with
    | true =>
      rw [boundaryPart_stage hb hw]
      exact ⟨by simp [BoundaryWork.after], h.stage u w only hP hw⟩
    | false => exact passed (boundaryPart_of_done hb hw)
  | analyser =>
    cases hw : w.analyser with
    | true =>
      rw [boundaryPart_analyser hb hw]
      exact ⟨by simp [BoundaryWork.after], h.analyser u w only hP hw⟩
    | false => exact passed (boundaryPart_of_done hb hw)
  | verify =>
    have mode := mode_of_onlyBoundary only
    by_cases h0 : w.verifies = 0
    · exact passed (boundaryPart_of_done hb h0)
    · by_cases hskip : w.verifies = scrubCount ∧ s.mode ≠ .run
      · have left : w.after s.running .verify = { w with verifies := 0 } := by
          simp [BoundaryWork.after, running, hskip]
        rw [boundaryPart_skip hb hskip.1 (by rw [mode]; exact hskip.2), left]
        exact ⟨rfl, h.skip u w only hP hskip.1 hskip.2⟩
      · have left : w.after s.running .verify = { w with verifies := w.verifies - 1 } := by
          simp only [BoundaryWork.after, running, decide_eq_false_iff_not]
          rw [if_neg hskip]
        have makes : w.verifies = scrubCount → s.mode = .run := fun h16 => by
          by_contra hm
          exact hskip ⟨h16, hm⟩
        rw [boundaryPart_verify hb h0 (by rwa [mode]), left]
        exact ⟨by simp, h.verify u w only hP h0 makes⟩

/-- What every part keeps holds after any parts, with the work that they leave. -/
theorem KeptInDelivery.parts (h : KeptInDelivery s P) (hb : s.time.boundary = some w) (hP : P s w)
    (order : List BoundaryPart) :
    (s.boundaryParts order).time.boundary = some (w.afterAll s.running order) ∧
      P (s.boundaryParts order) (w.afterAll s.running order) := by
  suffices ∀ u w, OnlyBoundary s u → u.time.boundary = some w → P u w →
      (u.boundaryParts order).time.boundary = some (w.afterAll s.running order) ∧
        P (u.boundaryParts order) (w.afterAll s.running order) from this s w (.refl s) hb hP
  induction order with
  | nil => exact fun u w _ hb hP => ⟨hb, hP⟩
  | cons p order ih =>
    intro u w only hb hP
    obtain ⟨hb', hP'⟩ := h.part only hb hP p
    exact ih _ _ (only.trans (boundaryPart_onlyBoundary u p)) hb' hP'

/-- The whole of a second that raises an event: every part, then the trim step. -/
theorem secondTick_whole_of_event (order : List BoundaryPart) (hs : s.time.boundary = none)
    (ht : s.tick.time.boundary = some w) :
    s.secondTick order .whole =
      (s.tick.boundaryParts (order ++ allParts)).modTime fun t => { t.trim with boundary := none } := by
  have kept : KeptInDelivery s.tick fun _ _ => True := by constructor <;> (intros; trivial)
  have begun := (kept.parts ht trivial order).1
  simp only [State.secondTick, settle_of_none hs, boundaryParts_append]
  simp only [State.settle, begun]

/-- A share that begins a second works the parts it names. -/
theorem secondTick_start (order : List BoundaryPart) (hs : s.time.boundary = none) :
    s.secondTick order .start = s.tick.boundaryParts order := by
  simp only [State.secondTick, settle_of_none hs]

end State

end Sys2Proof.Machine

/-! ## What the scrub verifies in a boundary event (R153) -/

namespace Sys2Proof.Proofs

open Sys2Proof Machine Laws

/-! ### Verifications of states that agree -/

/-- A relation between zones that the entry checker cannot tell apart (R147 to R150). -/
structure ZoneLike (R : Zone → Zone → Prop) : Prop where
  refl : ∀ x, R x x
  entry : ∀ {x y}, R x y → x.entry = y.entry ∧ x.code = y.code ∧ x.mark = y.mark
  setMark : ∀ {x y}, R x y → R { x with mark := true } { y with mark := true }
  setLost : ∀ {x y}, R x y → R { x with lost := true } { y with lost := true }
  outOfService : ∀ {x y}, R x y → R x.outOfService y.outOfService

/-- Two zones that differ at most in their open records. -/
def SameButRecord (x y : Zone) : Prop := { x with record := none } = { y with record := none }

theorem zoneLike_eq : ZoneLike Eq where
  refl _ := rfl
  entry := by rintro x _ rfl; exact ⟨rfl, rfl, rfl⟩
  setMark := by rintro x _ rfl; rfl
  setLost := by rintro x _ rfl; rfl
  outOfService := by rintro x _ rfl; rfl

/-- What reads nothing of the open record and leaves it where it is keeps the likeness. -/
theorem SameButRecord.map {x y : Zone} (h : SameButRecord x y) (f : Zone → Zone)
    (hf : ∀ z : Zone, f { z with record := none } = { f z with record := none }) : SameButRecord (f x) (f y) := by
  unfold SameButRecord at *
  rw [← hf, ← hf, h]

theorem zoneLike_sameButRecord : ZoneLike SameButRecord where
  refl _ := rfl
  entry h := by
    simp only [SameButRecord, Zone.mk.injEq] at h
    obtain ⟨entry, code, mark, -⟩ := h
    exact ⟨entry, code, mark⟩
  setMark h := h.map (fun z => { z with mark := true }) fun _ => rfl
  setLost h := h.map (fun z => { z with lost := true }) fun _ => rfl
  outOfService h := h.map Zone.outOfService fun z => by
    unfold Zone.outOfService
    dsimp only
    split
    · rfl
    · rfl

/-- The states agree, up to R on zones, in all that a verification reads or changes but the flags. -/
structure Agree (R : Zone → Zone → Prop) (s t : State) : Prop where
  zones : ∀ z, R (s.zone z) (t.zone z)
  meters : s.meters = t.meters
  findings : s.findings = t.findings
  analyser : s.analyser = t.analyser

namespace Agree

variable {R : Zone → Zone → Prop} {s t : State}

theorem refl (hR : ZoneLike R) (s : State) : Agree R s s := ⟨fun _ => hR.refl _, rfl, rfl, rfl⟩

theorem latch_left (h : Agree R s t) (flag : Byte) : Agree R (s.latch flag) t := { h with }

theorem latch_right (h : Agree R s t) (flag : Byte) : Agree R s (t.latch flag) := { h with }

theorem ite_latch_left (h : Agree R s t) (p : Prop) [Decidable p] (flag : Byte) :
    Agree R (if p then s.latch flag else s) t := by
  split
  · exact h.latch_left flag
  · exact h

theorem ite_latch_right (h : Agree R s t) (p : Prop) [Decidable p] (flag : Byte) :
    Agree R s (if p then t.latch flag else t) := by
  split
  · exact h.latch_right flag
  · exact h

theorem meter (h : Agree R s t) (m : SlotId) : s.meter m = t.meter m := by simp only [State.meter, h.meters]

theorem setBoundary_left (h : Agree R s t) (w : BoundaryWork) : Agree R (s.setBoundary w) t := { h with }

theorem modZone (h : Agree R s t) (z : ZoneId) {f : Zone → Zone} (hf : ∀ {x y}, R x y → R (f x) (f y)) :
    Agree R (s.modZone z f) (t.modZone z f) := by
  refine { h with zones := fun y => ?_ }
  rw [State.zone_modZone, State.zone_modZone]
  split
  · exact hf (h.zones z)
  · exact h.zones y

theorem modMeter (h : Agree R s t) (m : SlotId) (f : MeterSlot → MeterSlot) :
    Agree R (s.modMeter m f) (t.modMeter m f) := by
  refine { h with meters := ?_ }
  simp only [State.modMeter, State.putMeter, h.meters, h.meter m]

theorem markLost (hR : ZoneLike R) (h : Agree R s t) (x : Subject) : Agree R (s.markLost x) (t.markLost x) := by
  cases x with
  | zone z => exact h.modZone z hR.setLost
  | meter m => exact h.modMeter m fun x => { x with lost := true }

theorem setFindings (h : Agree R s t) (q : List Finding) : Agree R (s.setFindings q) (t.setFindings q) :=
  { h with findings := rfl }

theorem offer (hR : ZoneLike R) (h : Agree R s t) (x : Finding) : Agree R (s.offer x) (t.offer x) := by
  unfold State.offer
  rw [h.findings]
  split
  · dsimp only
    split
    · exact ((h.setFindings _).latch_left _).latch_right _
    · exact h.setFindings _
  · exact ((markLost hR h _).latch_left _).latch_right _

/-- Whatever the faulted count says, a new mark shows outside the flags in its entry alone. -/
theorem setMark (hR : ZoneLike R) (h : Agree R s t) (e : Subject) : Agree R (s.setMark e) (t.setMark e) := by
  unfold State.setMark
  cases e with
  | zone z => exact ((h.modZone z hR.setMark).ite_latch_right _ _).ite_latch_left _ _
  | meter m =>
    exact ((h.modMeter m fun x => { x with mark := true }).ite_latch_right _ _).ite_latch_left _ _

theorem finishFault (hR : ZoneLike R) (h : Agree R s t) (e : Subject) : Agree R (s.finishFault e) (t.finishFault e) := by
  refine offer hR ?_ _
  cases e with
  | zone z => exact h.modZone z hR.outOfService
  | meter m => exact h.modMeter m MeterSlot.outOfService

theorem newFault (hR : ZoneLike R) (h : Agree R s t) (e : Subject) : Agree R (s.newFault e) (t.newFault e) := by
  have holds : s.analyses e = t.analyses e := by simp only [State.analyses, h.analyser]
  have marked := setMark hR h e
  unfold State.newFault
  rw [holds]
  split
  · exact { marked with analyser := by simp only [State.analyser_modAnalyser, marked.analyser] }
  · exact finishFault hR marked e

/-- A verification keeps the agreement (R147). -/
theorem verify (hR : ZoneLike R) (h : Agree R s t) (e : Subject) : Agree R (s.verify e) (t.verify e) := by
  have same : s.entryMatches e = t.entryMatches e ∧ s.entryMark e = t.entryMark e := by
    cases e with
    | zone z =>
      obtain ⟨hentry, hcode, hmark⟩ := hR.entry (h.zones z)
      simp only [State.entryMatches, State.entryMark, hentry, hcode, hmark, and_self]
    | meter m => simp only [State.entryMatches, State.entryMark, h.meter m, and_self]
  unfold State.verify
  rw [same.1, same.2]
  split
  · exact h
  · exact newFault hR h e

theorem verifyAll (hR : ZoneLike R) (h : Agree R s t) (es : List Subject) : Agree R (s.verifyAll es) (t.verifyAll es) := by
  induction es generalizing s t with
  | nil => exact h
  | cons e es ih => exact ih (verify hR h e)

end Agree

/-! ### The scrub in a delivery -/

/-- The entries the scrub has verified when the work w is left (R153): from its pointer on, in ascending order. -/
def scrubbed (s : State) (w : BoundaryWork) : List Subject :=
  (List.range (scrubCount - w.verifies)).map fun i => entryOf (s.checker.scrub + Fin.ofNat 176 i)

/-- The checker in a delivery that begins in s (R153): outside RUN it makes none of its verifications or has passed them
over; in RUN its pointer moves with the last of them. -/
structure Scrubbing (s u : State) (w : BoundaryWork) : Prop where
  left : w.verifies ≤ scrubCount
  idle : s.mode ≠ .run → w.verifies = scrubCount ∨ w.verifies = 0
  checker : u.checker =
    if s.mode = .run ∧ w.verifies = 0 then { s.checker with scrub := s.checker.scrub + Fin.ofNat 176 scrubCount }
    else s.checker

variable {s u t : State} {w : BoundaryWork}

/-- Parts other than the scrub's leave the checker alone. -/
theorem Scrubbing.congr (h : Scrubbing s u w) {w' : BoundaryWork} (hw : w'.verifies = w.verifies)
    (ht : t.checker = u.checker) : Scrubbing s t w' :=
  ⟨hw ▸ h.left, hw ▸ h.idle, by rw [ht, hw]; exact h.checker⟩

theorem checker_stageBoundary (s : State) : s.stageBoundary.checker = s.checker := by
  unfold State.stageBoundary
  split
  · split
    · rw [applyCommit_onlyCommit s]
    · rfl
  · rfl

theorem checker_analyserBoundary (s : State) (mark : Option GridMark) : (s.analyserBoundary mark).checker = s.checker := by
  cases mark with
  | none => rfl
  | some gm => simp only [State.analyserBoundary, State.checker_mapZones]

theorem checker_channelBoundary (s : State) (b : Nat) (x : ChanId) : (s.channelBoundary b x).checker = s.checker := by
  rw [channelBoundary_onlyCapture s b x]

/-- Before its last verification the checker is as the delivery found it. -/
theorem Scrubbing.checker_of_left (h : Scrubbing s u w) (hw : w.verifies ≠ 0) : u.checker = s.checker := by
  rw [h.checker, if_neg fun ⟨_, h0⟩ => hw h0]

theorem scrubbing_kept (s : State) : s.KeptInDelivery (Scrubbing s) where
  channel u w c _ h _ := h.congr rfl (checker_channelBoundary _ _ _)
  stage u w _ h _ := h.congr rfl (checker_stageBoundary _)
  analyser u w _ h _ := h.congr rfl (checker_analyserBoundary _ _)
  skip u w _ h hw hm := by
    refine ⟨Nat.zero_le _, fun _ => .inr rfl, ?_⟩
    rw [if_neg fun ⟨hrun, _⟩ => hm hrun]
    exact h.checker_of_left (by rw [hw]; decide)
  verify u w _ h hw hm := by
    have run : s.mode = .run := by
      by_contra hrun
      rcases h.idle hrun with h16 | h0
      · exact hrun (hm h16)
      · exact hw h0
    have checker := h.checker_of_left hw
    refine ⟨Nat.le_trans (Nat.sub_le _ _) h.left, fun hrun => absurd run hrun, ?_⟩
    unfold State.scrubStep
    dsimp only
    by_cases h1 : w.verifies = 1
    · rw [if_pos h1, if_pos ⟨run, by omega⟩, State.checker_modChecker, verify_onlyFault _ _]
      exact congrArg (fun c : Checker => { c with scrub := c.scrub + Fin.ofNat 176 scrubCount }) checker
    · rw [if_neg h1, if_neg fun ⟨_, h0⟩ => h1 (by omega), verify_onlyFault _ _]
      exact checker

/-- The memory in a delivery that begins in s with no commit pending: what the verifications made so far leave, but for
channels and flags, and up to R for the open records. -/
structure Verified (R : Zone → Zone → Prop) (s u : State) (w : BoundaryWork) : Prop where
  scrubbing : Scrubbing s u w
  stage : u.stage = s.stage
  memory : Agree R u (if s.mode = .run then s.verifyAll (scrubbed s w) else s)

theorem agree_channelBoundary {R : Zone → Zone → Prop} (h : Agree R u t) (b : Nat) (x : ChanId) :
    Agree R (u.channelBoundary b x) t := by
  rw [channelBoundary_onlyCapture u b x]
  exact { h with }

theorem stage_channelBoundary (s : State) (b : Nat) (x : ChanId) : (s.channelBoundary b x).stage = s.stage := by
  rw [channelBoundary_onlyCapture s b x]

theorem stageBoundary_of_not_pending (h : s.stage.commitPending = false) : s.stageBoundary = s := by
  simp [State.stageBoundary, h]

theorem stage_analyserBoundary (s : State) (mark : Option GridMark) : (s.analyserBoundary mark).stage = s.stage := by
  cases mark with
  | none => rfl
  | some gm => simp only [State.analyserBoundary, State.stage_mapZones]

/-- One more verification extends the list of those made. -/
theorem scrubbed_succ (s : State) {w : BoundaryWork} (hw : w.verifies ≠ 0) (h16 : w.verifies ≤ scrubCount) :
    scrubbed s { w with verifies := w.verifies - 1 } =
      scrubbed s w ++ [entryOf (s.checker.scrub + Fin.ofNat 176 (scrubCount - w.verifies))] := by
  have succ : scrubCount - (w.verifies - 1) = (scrubCount - w.verifies) + 1 := by omega
  simp only [scrubbed, succ, List.range_succ, List.map_append, List.map_cons, List.map_nil]

theorem verifyAll_append (s : State) (es fs : List Subject) : s.verifyAll (es ++ fs) = (s.verifyAll es).verifyAll fs :=
  List.foldl_append

theorem verified_kept {R : Zone → Zone → Prop} (hR : ZoneLike R) (hp : s.stage.commitPending = false)
    {mark : Option GridMark}
    (hmark : ∀ u t, Agree R u t → Agree R (u.analyserBoundary mark) t) :
    s.KeptInDelivery fun u w => w.event.mark = mark ∧ Verified R s u w where
  channel u w c only h hc :=
    ⟨h.1, (scrubbing_kept s).channel u w c only h.2.scrubbing hc, (stage_channelBoundary _ _ _).trans h.2.stage,
      agree_channelBoundary (h.2.memory.setBoundary_left _) _ _⟩
  stage u w only h hw := by
    refine ⟨h.1, (scrubbing_kept s).stage u w only h.2.scrubbing hw, ?_, ?_⟩
    all_goals rw [stageBoundary_of_not_pending (by rw [← hp, ← h.2.stage]; rfl)]
    · exact h.2.stage
    · exact h.2.memory.setBoundary_left _
  analyser u w only h hw := by
    refine ⟨h.1, (scrubbing_kept s).analyser u w only h.2.scrubbing hw, (stage_analyserBoundary _ _).trans h.2.stage, ?_⟩
    rw [h.1]
    exact hmark _ _ (h.2.memory.setBoundary_left _)
  skip u w only h hw hm := by
    refine ⟨h.1, (scrubbing_kept s).skip u w only h.2.scrubbing hw hm, h.2.stage, ?_⟩
    have memory := h.2.memory
    rw [if_neg hm] at memory ⊢
    exact memory.setBoundary_left _
  verify u w only h hw hm := by
    have scrubbing := (scrubbing_kept s).verify u w only h.2.scrubbing hw hm
    have run : s.mode = .run := by
      by_contra hrun
      rcases h.2.scrubbing.idle hrun with h16 | h0
      · exact hrun (hm h16)
      · exact hw h0
    have memory := h.2.memory
    rw [if_pos run] at memory
    have checker := h.2.scrubbing.checker_of_left hw
    have seen := Agree.verify hR (memory.setBoundary_left { w with verifies := w.verifies - 1 })
      (entryOf (s.checker.scrub + Fin.ofNat 176 (scrubCount - w.verifies)))
    refine ⟨h.1, scrubbing, ?_, ?_⟩
    · unfold State.scrubStep
      dsimp only
      split
      · rw [State.stage_modChecker, verify_onlyFault _ _]; exact h.2.stage
      · rw [verify_onlyFault _ _]; exact h.2.stage
    · rw [if_pos run, scrubbed_succ s hw h.2.scrubbing.left, verifyAll_append]
      unfold State.scrubStep
      rw [checker]
      dsimp only
      split
      · exact { seen with }
      · exact seen

end Sys2Proof.Proofs

/-! ## The marks of the grid (R5, R6) -/

namespace Sys2Proof.Machine.Grid

open Sys2Proof Proofs

variable {g : Grid}

/-- The lengths of a permitted grid, as the night arithmetic uses them (1.4, R8): a window and its deadline lie within a
day of the window's start. -/
theorem lengths_of_gridFault (h : gridFault g = none) :
    g.binCount * g.seconds = g.windowLength * 60 ∧ 60 ≤ g.windowLength ∧ 60 ≤ g.closeDelay ∧
      g.windowLength + g.closeDelay ≤ 1320 := by
  have passes := Safety.firstFailing_eq_none.mp h
  simp only [List.forall_mem_cons] at passes
  obtain ⟨-, -, length, delay, -, -, -⟩ := passes
  obtain ⟨least, -, whole, -, -⟩ := (windowLengthOk_iff g).mp length
  obtain ⟨leastDelay, -, -, day⟩ := (closeDelayOk_iff g).mp delay
  refine ⟨?_, least, leastDelay, day⟩
  have bins : g.windowLength / g.interval * g.interval = g.windowLength := Nat.div_mul_cancel (Nat.dvd_of_mod_eq_zero whole)
  calc g.binCount * g.seconds = g.windowLength / g.interval * g.interval * 60 := by
        rw [binCount, seconds, Nat.mul_assoc]
    _ = g.windowLength * 60 := by rw [bins]

/-- On a permitted grid the mark of a boundary says exactly which point of which night it is (R6). -/
theorem markAt_eq_some_iff (h : gridFault g = none) (b n : Nat) :
    (g.markAt b = some (.windowStart n) ↔ b = g.ws n) ∧ (g.markAt b = some (.windowEnd n) ↔ b = g.we n) ∧
      (g.markAt b = some (.deadline n) ↔ b = g.deadline n) := by
  obtain ⟨window, length, delay, day⟩ := lengths_of_gridFault h
  have hws : ∀ k, g.ws k = k * 86400 + g.windowStart := fun _ => rfl
  have hwe : ∀ k, g.we k = k * 86400 + g.windowStart + g.windowLength * 60 := fun k => by rw [we, window, hws]
  have hdl : ∀ k, g.deadline k = k * 86400 + g.windowStart + g.windowLength * 60 + g.closeDelay * 60 := fun k => by
    rw [deadline, hwe]
  unfold markAt Config.daySeconds
  dsimp only
  by_cases hb : g.windowStart ≤ b
  · rw [if_pos hb]
    by_cases h1 : b = g.ws ((b - g.windowStart) / 86400)
    · rw [if_pos h1]
      simp only [Option.some.injEq, GridMark.windowStart.injEq, reduceCtorEq, false_iff, hws, hwe, hdl] at h1 ⊢
      omega
    · rw [if_neg h1]
      by_cases h2 : b = g.we ((b - g.windowStart) / 86400)
      · rw [if_pos h2]
        simp only [Option.some.injEq, GridMark.windowEnd.injEq, reduceCtorEq, false_iff, hws, hwe, hdl] at h1 h2 ⊢
        omega
      · rw [if_neg h2]
        by_cases h3 : b = g.deadline ((b - g.windowStart) / 86400)
        · rw [if_pos h3]
          simp only [Option.some.injEq, GridMark.deadline.injEq, reduceCtorEq, false_iff, hws, hwe, hdl] at h1 h2 h3 ⊢
          omega
        · rw [if_neg h3]
          simp only [reduceCtorEq, false_iff, hws, hwe, hdl] at h1 h2 h3 ⊢
          omega
  · rw [if_neg hb]
    simp only [reduceCtorEq, false_iff, hws, hwe, hdl]
    omega

end Sys2Proof.Machine.Grid

/-! ## A delivery in which every entry matches its code -/

namespace Sys2Proof.Proofs

open Sys2Proof Machine Laws

variable {s t s' t' u : State} {w : BoundaryWork}

/-- Every entry matches its code (R147). -/
def AllMatch (s : State) : Prop := ∀ e, s.entryMatches e = true

theorem zone_congr (h : s.zones = t.zones) (z : ZoneId) : s.zone z = t.zone z := by simp only [State.zone, h]

theorem meter_congr (h : s.meters = t.meters) (m : SlotId) : s.meter m = t.meter m := by simp only [State.meter, h]

theorem AllMatch.congr (h : AllMatch s) (hz : t.zones = s.zones) (hm : t.meters = s.meters) : AllMatch t := by
  intro e
  rw [← h e]
  cases e with
  | zone z => simp only [State.entryMatches, zone_congr hz]
  | meter m => simp only [State.entryMatches, meter_congr hm]

theorem AllMatch.setBoundary (h : AllMatch s) (w : BoundaryWork) : AllMatch (s.setBoundary w) := h

theorem AllMatch.mapZones (h : AllMatch s) {f : ZoneId → Zone → Zone}
    (hf : ∀ z x, (f z x).entry = x.entry ∧ (f z x).code = x.code) : AllMatch (s.mapZones f) := by
  intro e
  cases e with
  | zone z =>
    obtain ⟨entry, code⟩ := hf z (s.zone z)
    have := h (.zone z)
    simpa only [State.entryMatches, State.zone_mapZones, entry, code] using this
  | meter m => simpa only [State.entryMatches, State.meter_mapZones] using h (.meter m)

theorem AllMatch.modMeter (h : AllMatch s) (m : SlotId) {f : MeterSlot → MeterSlot}
    (hf : ∀ x, x.code = bindingCode x.binding → (f x).code = bindingCode (f x).binding) : AllMatch (s.modMeter m f) := by
  intro e
  cases e with
  | zone z => exact h (.zone z)
  | meter k =>
    simp only [State.entryMatches, State.meter_modMeter, decide_eq_true_eq]
    split
    · exact hf _ (of_decide_eq_true (h (.meter m)))
    · exact of_decide_eq_true (h (.meter k))

/-! ### Commits (R29 to R31) -/

/-- Every row of R30's table writes the binding with its code. -/
theorem apply_code (m : MeterSlot) (b : MeterBinding) : (m.apply b).code = bindingCode (m.apply b).binding := by
  unfold MeterSlot.apply
  dsimp only
  split
  · split <;> rfl
  · split
    iterate 3
      split
      · rfl
      · rfl
    all_goals rfl

theorem zones_writeBindings (s : State) : s.writeBindings.zones = s.zones := by
  unfold State.writeBindings
  generalize s.stage.bindings = ps
  induction ps generalizing s with
  | nil => rfl
  | cons p ps ih => exact ih (s.modMeter p.slot (·.apply p.binding))

theorem AllMatch.writeBindings (h : AllMatch s) : AllMatch s.writeBindings := by
  unfold State.writeBindings
  generalize s.stage.bindings = ps
  induction ps generalizing s with
  | nil => exact h
  | cons p ps ih => exact ih (h.modMeter p.slot fun x _ => apply_code x p.binding)

theorem AllMatch.applyCommit (h : AllMatch s) : AllMatch s.applyCommit := by
  have followed : AllMatch (s.writeBindings.followMembers s) := by
    refine h.writeBindings.mapZones fun z x => ?_
    split
    · exact ⟨rfl, rfl⟩
    · exact ⟨rfl, rfl⟩
  exact followed.congr (by simp only [State.applyCommit, State.zones_modStage])
    (by simp only [State.applyCommit, State.meters_modStage])

theorem writeBindings_congr (hm : s.meters = t.meters) (hg : s.stage = t.stage) :
    s.writeBindings.meters = t.writeBindings.meters := by
  unfold State.writeBindings
  rw [hg]
  generalize t.stage.bindings = ps
  clear hg
  induction ps generalizing s t with
  | nil => exact hm
  | cons p ps ih =>
    refine ih (s := s.modMeter p.slot (·.apply p.binding)) (t := t.modMeter p.slot (·.apply p.binding)) ?_
    simp only [State.modMeter, State.putMeter, hm, meter_congr hm]

theorem memberSet_congr (h : s.meters = t.meters) (z : ZoneId) : s.memberSet z = t.memberSet z := by
  simp only [State.memberSet, meter_congr h]

theorem rebound_congr (h : s.meters = t.meters) (h' : s'.meters = t'.meters) (m : SlotId) :
    s.rebound s' m = t.rebound t' m := by
  simp only [State.rebound, meter_congr h, meter_congr h']

theorem memberSetChanged_congr (h : s.meters = t.meters) (h' : s'.meters = t'.meters) (z : ZoneId) :
    s.memberSetChanged s' z = t.memberSetChanged t' z := by
  simp only [State.memberSetChanged, memberSet_congr h, memberSet_congr h', rebound_congr h h']

theorem updatedRecord_congr (h : s.meters = t.meters) (h' : s'.meters = t'.meters) (z : ZoneId) :
    s.updatedRecord s' z = t.updatedRecord t' z := by
  funext r
  simp only [State.updatedRecord, State.updatedMembers, memberSet_congr h, rebound_congr h h']

theorem followMembers_congr (h : s.meters = t.meters) (h' : s'.meters = t'.meters) (hz : s.zones = t.zones) :
    (s.followMembers s').zones = (t.followMembers t').zones := by
  refine congrArg Vector.ofFn (funext fun z => ?_)
  dsimp only
  rw [memberSetChanged_congr h h', updatedRecord_congr h h', zone_congr hz]

theorem meters_applyCommit (s : State) : s.applyCommit.meters = s.writeBindings.meters := by
  simp only [State.applyCommit, State.meters_modStage, State.followMembers, State.meters_mapZones]

/-- The stage's part in a boundary event goes by the stage, the meters, the zones and the item in hand alone (R29). -/
theorem stageBoundary_congr (hm : s.meters = t.meters) (hg : s.stage = t.stage) (hi : s.intake = t.intake) :
    s.stageBoundary.meters = t.stageBoundary.meters ∧ s.stageBoundary.stage = t.stageBoundary.stage ∧
      (s.zones = t.zones → s.stageBoundary.zones = t.stageBoundary.zones) := by
  have written := writeBindings_congr hm hg
  unfold State.stageBoundary
  rw [hg, hi]
  split
  · split
    · refine ⟨by rw [meters_applyCommit, meters_applyCommit, written],
        by rw [applyCommit_stage, applyCommit_stage], fun hz => ?_⟩
      simp only [State.applyCommit, State.zones_modStage]
      exact followMembers_congr written hm (by rw [zones_writeBindings, zones_writeBindings, hz])
    · exact ⟨hm, by simp only [State.stage_modStage, hg], id⟩
  · exact ⟨hm, hg, id⟩

theorem AllMatch.stageBoundary (h : AllMatch s) : AllMatch s.stageBoundary := by
  unfold State.stageBoundary
  split
  · split
    · exact h.applyCommit
    · exact h.congr rfl rfl
  · exact h

/-! ### Holds and grid marks (R92, R93, R95, R137) -/

/-- The channels' status levels are as in s (R38, R39). -/
def SameLines (s u : State) : Prop := ∀ c, (u.channel c).mode = (s.channel c).mode ∧ (u.channel c).asserted = (s.channel c).asserted

theorem holdActive_congr (h : SameLines s u) {z : ZoneId} (hz : u.zone z = s.zone z) : u.holdActive z = s.holdActive z := by
  have line : ∀ l, u.lineAsserted l = s.lineAsserted l := by
    intro l
    cases l with
    | none => rfl
    | some c =>
      obtain ⟨mode, asserted⟩ := h c
      simp only [State.lineAsserted, mode, asserted]
  simp only [State.holdActive, hz, line]

theorem SameLines.modChannel (h : SameLines s u) (x : ChanId) {f : Channel → Channel}
    (hf : ∀ c, (f c).mode = c.mode ∧ (f c).asserted = c.asserted) : SameLines s (u.modChannel x f) := by
  intro c
  rw [State.channel_modChannel]
  split
  next hc =>
    obtain ⟨mode, asserted⟩ := hf (u.channel x)
    rw [mode, asserted, hc]
    exact h x
  next => exact h c

theorem SameLines.post (h : SameLines s u) (x : ChanId) (r : Capture) : SameLines s (u.post x r) := by
  have posted : SameLines s (u.modChannel x (·.post r)) := h.modChannel x fun _ => ⟨rfl, rfl⟩
  unfold State.post
  split
  · dsimp only
    split
    · exact posted
    · exact posted
  · exact h

theorem SameLines.channelBoundary (h : SameLines s u) (b : Nat) (x : ChanId) : SameLines s (u.channelBoundary b x) := by
  unfold State.channelBoundary
  dsimp only
  split
  · exact h.post x _
  · exact (h.post x _).modChannel x fun _ => ⟨rfl, rfl⟩
  all_goals exact h

theorem channels_stageBoundary (s : State) : s.stageBoundary.channels = s.channels := by
  unfold State.stageBoundary
  split
  · split
    · rw [applyCommit_onlyCommit s]
    · rfl
  · rfl

theorem SameLines.congr (h : SameLines s u) (hc : t.channels = u.channels) : SameLines s t := by
  intro c
  have same : t.channel c = u.channel c := by simp only [State.channel, hc]
  rw [same]
  exact h c

theorem SameLines.setBoundary (h : SameLines s u) (w : BoundaryWork) : SameLines s (u.setBoundary w) := h

/-- The grid mark at one zone. -/
theorem zone_analyserBoundary (s : State) (gm : GridMark) (z : ZoneId) :
    (s.analyserBoundary (some gm)).zone z =
      { s.zone z with record := (s.zone z).record.map (gm.onRecord (s.holdActive z)) } := by
  simp only [State.analyserBoundary, State.zone_mapZones]

theorem analyserBoundary_congr (h : SameLines s u) (hz : u.zones = s.zones) (mark : Option GridMark) :
    (u.analyserBoundary mark).zones = (s.analyserBoundary mark).zones := by
  cases mark with
  | none => exact hz
  | some gm =>
    simp only [State.analyserBoundary, State.mapZones, zone_congr hz, fun z => holdActive_congr h (zone_congr hz z)]

theorem meters_analyserBoundary (s : State) (mark : Option GridMark) : (s.analyserBoundary mark).meters = s.meters := by
  cases mark with
  | none => rfl
  | some gm => simp only [State.analyserBoundary, State.meters_mapZones]

theorem channels_analyserBoundary (s : State) (mark : Option GridMark) :
    (s.analyserBoundary mark).channels = s.channels := by
  cases mark with
  | none => rfl
  | some gm => simp only [State.analyserBoundary, State.channels_mapZones]

theorem AllMatch.analyserBoundary (h : AllMatch s) (mark : Option GridMark) : AllMatch (s.analyserBoundary mark) := by
  cases mark with
  | none => exact h
  | some gm =>
    unfold State.analyserBoundary
    refine h.mapZones fun z x => ?_
    exact ⟨rfl, rfl⟩

/-- With every entry matching, a verification of the scrub moves the event and the checker alone. -/
theorem scrubStep_of_allMatch (h : AllMatch u) (w : BoundaryWork) :
    u.scrubStep w = { u.setBoundary { w with verifies := w.verifies - 1 } with checker := (u.scrubStep w).checker } := by
  have seen : ∀ w' e, (u.setBoundary w').verify e = u.setBoundary w' := fun w' e => verify_of_settled (.inl (h e))
  unfold State.scrubStep
  rw [seen]
  dsimp only
  split
  · rfl
  · rfl

/-- A delivery that begins in s, every entry matching its code: meters and stage follow the stage's part, and the zones too
at a boundary without a mark; with no commit pending the zones follow the analyser's part. -/
structure Quiet (s u : State) (w : BoundaryWork) : Prop where
  entries : AllMatch u
  lines : SameLines s u
  meters : u.meters = if w.stage then s.meters else s.stageBoundary.meters
  stage : u.stage = if w.stage then s.stage else s.stageBoundary.stage
  unmarked : w.event.mark = none → u.zones = if w.stage then s.zones else s.stageBoundary.zones
  uncommitted : s.stage.commitPending = false →
    u.zones = if w.analyser then s.zones else (s.analyserBoundary w.event.mark).zones

theorem Quiet.begin (h : AllMatch s) (hs : w.stage = true) (ha : w.analyser = true) : Quiet s s w :=
  ⟨h, fun _ => ⟨rfl, rfl⟩, by rw [if_pos hs], by rw [if_pos hs], fun _ => by rw [if_pos hs], fun _ => by rw [if_pos ha]⟩

/-- Parts that touch neither zones nor meters nor the stage. -/
theorem Quiet.congr {w' : BoundaryWork} (h : Quiet s u w) (hz : t.zones = u.zones) (hm : t.meters = u.meters)
    (hg : t.stage = u.stage) (hl : SameLines s t) (hevent : w'.event = w.event) (hstage : w'.stage = w.stage)
    (hanalyser : w'.analyser = w.analyser) : Quiet s t w' := by
  refine ⟨h.entries.congr hz hm, hl, ?_, ?_, ?_, ?_⟩
  · rw [hm, hstage]; exact h.meters
  · rw [hg, hstage]; exact h.stage
  · rw [hz, hstage, hevent]; exact h.unmarked
  · rw [hz, hanalyser, hevent]; exact h.uncommitted

theorem quiet_kept (s : State) : s.KeptInDelivery (Quiet s) where
  channel u w c only h hc := by
    refine h.congr ?_ ?_ ?_ ((h.lines.setBoundary _).channelBoundary _ _) rfl rfl rfl
    all_goals rw [channelBoundary_onlyCapture _ _ _]
    all_goals rfl
  stage u w only h hw := by
    have meters : u.meters = s.meters := by rw [h.meters, if_pos hw]
    have stage : u.stage = s.stage := by rw [h.stage, if_pos hw]
    obtain ⟨meters', stage', zones'⟩ := stageBoundary_congr (s := u.setBoundary { w with stage := false }) (t := s) meters
      stage (by rw [only]; rfl)
    refine ⟨AllMatch.stageBoundary (h.entries.congr rfl rfl), h.lines.congr (channels_stageBoundary _), meters', stage',
      fun hmark => zones' ?_, fun hp => ?_⟩
    · exact (h.unmarked hmark).trans (if_pos hw)
    · rw [stageBoundary_of_not_pending (by rw [← hp, ← stage]; rfl)]
      exact h.uncommitted hp
  analyser u w only h hw := by
    have lines := h.lines.setBoundary { w with analyser := false }
    refine ⟨(h.entries.setBoundary _).analyserBoundary _, lines.congr (channels_analyserBoundary _ _),
      (meters_analyserBoundary _ _).trans h.meters, (stage_analyserBoundary _ _).trans h.stage, fun hmark => ?_,
      fun hp => ?_⟩
    · rw [show w.event.mark = none from hmark]
      exact h.unmarked hmark
    · exact analyserBoundary_congr lines ((h.uncommitted hp).trans (if_pos hw)) _
  skip u w _ h hw _ := h.congr rfl rfl rfl (h.lines.congr rfl) rfl rfl rfl
  verify u w _ h _ _ := by
    rw [scrubStep_of_allMatch h.entries w]
    exact h.congr rfl rfl rfl (h.lines.congr rfl) rfl rfl rfl

end Sys2Proof.Proofs

/-! ## The statements about a boundary tick -/

namespace Sys2Proof.Proofs

open Sys2Proof Machine Laws

section Delivery

variable {s : State}

/-- The work of the event that a tick onto a boundary raises (R3). -/
def raised (s : State) : BoundaryWork := (s.time.grid.eventAt (s.time.partTime + 1)).begin

theorem raised_verifies (s : State) : (raised s).verifies = scrubCount := rfl

/-- A state on the eve of a boundary: the next tick advances part time onto one, with no event in delivery (R1, R3). -/
structure Eve (s : State) : Prop where
  boundary : s.time.boundary = none
  standstill : s.time.standstill = 0
  partTime : s.time.partTime < 4294967295
  multiple : (s.time.partTime + 1) % (s.time.grid.interval * 60) = 0

/-- The state in which the delivery of that event begins. -/
def begun (s : State) : State :=
  { s with time := { s.time with partTime := s.time.partTime + 1, divider := 0, boundary := some (raised s) } }

theorem Eve.tick (h : Eve s) : s.tick = begun s := State.tick_of_boundary h.standstill h.partTime h.multiple

theorem Eve.start (h : Eve s) (order : List BoundaryPart) :
    exec (.secondTick order .start) s = .next ((begun s).boundaryParts order) := by
  rw [← h.tick]
  exact congrArg Host.Outcome.next (State.secondTick_start order h.boundary)

/-- The whole second: every part of the event, then the trim step. -/
theorem Eve.whole (h : Eve s) (order : List BoundaryPart) :
    exec (.secondTick order .whole) s =
      .next (((begun s).boundaryParts (order ++ allParts)).modTime fun t => { t.trim with boundary := none }) := by
  rw [← h.tick]
  refine congrArg Host.Outcome.next (State.secondTick_whole_of_event (w := raised s) order h.boundary ?_)
  rw [h.tick]
  rfl

/-- When every part has been worked, the work left names no stage, no analyser and no verification. -/
theorem finished (s : State) (run : Bool) (order : List BoundaryPart) :
    ((raised s).afterAll run (order ++ allParts)).stage = false ∧
      ((raised s).afterAll run (order ++ allParts)).analyser = false ∧
      ((raised s).afterAll run (order ++ allParts)).verifies = 0 :=
  (raised s).afterAll_allParts run order (Nat.le_refl _)

theorem afterAll_event (run : Bool) (w : BoundaryWork) (order : List BoundaryPart) :
    (w.afterAll run order).event = w.event := by
  induction order generalizing w with
  | nil => rfl
  | cons p order ih => rw [BoundaryWork.afterAll_cons, ih, BoundaryWork.after_event]

/-! ### The night records (R92, R93, R95) -/

/-- A record after a boundary event with this mark, or none; `active` is whether its zone's hold is active. -/
def afterMark (active : Bool) (r : NightRecord) : Option GridMark → NightRecord
  | none => r
  | some gm => gm.onRecord active r

theorem record_analyserBoundary (s : State) (mark : Option GridMark) {z : ZoneId} {r : NightRecord}
    (hr : (s.zone z).record = some r) :
    ((s.analyserBoundary mark).zone z).record = some (afterMark (s.holdActive z) r mark) := by
  cases mark with
  | none => exact hr
  | some gm => rw [zone_analyserBoundary]; simp only [hr, Option.map_some, afterMark]

/-- What the boundary at b does to a record, told by the points of its night (R92, R93, R95). -/
theorem afterMark_markAt {g : Grid} (hg : gridFault g = none) (b : Nat) (active : Bool) (r : NightRecord) :
    (b = g.ws r.night → r.state = .waiting →
      afterMark active r (g.markAt b) = { r with state := .collecting, held := r.held || active }) ∧
    (b = g.we r.night → r.state = .collecting → afterMark active r (g.markAt b) = { r with state := .draining }) ∧
    (b = g.deadline r.night → r.state = .draining → afterMark active r (g.markAt b) = { r with state := .closing }) ∧
    ((b ≠ g.ws r.night ∨ r.state ≠ .waiting) → (b ≠ g.we r.night ∨ r.state ≠ .collecting) →
      (b ≠ g.deadline r.night ∨ r.state ≠ .draining) → afterMark active r (g.markAt b) = r) := by
  obtain ⟨start, stop, deadline⟩ := g.markAt_eq_some_iff hg b r.night
  simp only [ne_eq, ← start, ← stop, ← deadline]
  cases g.markAt b with
  | none => simp [afterMark]
  | some gm =>
    cases gm with
    | windowStart n =>
      refine ⟨?_, nofun, nofun, fun h _ _ => if_neg ?_⟩
      · rintro ⟨⟩ hstate
        simp [afterMark, GridMark.onRecord, hstate]
      · grind
    | windowEnd n =>
      refine ⟨nofun, ?_, nofun, fun _ h _ => if_neg ?_⟩
      · rintro ⟨⟩ hstate
        simp [afterMark, GridMark.onRecord, hstate]
      · grind
    | deadline n =>
      refine ⟨nofun, nofun, ?_, fun _ _ h => if_neg ?_⟩
      · rintro ⟨⟩ hstate
        simp [afterMark, GridMark.onRecord, hstate]
      · grind

/-- The delivery of an event from its first part on, every entry matching its code. -/
theorem Eve.quiet (hm : AllMatch s) (order : List BoundaryPart) :
    Quiet (begun s) ((begun s).boundaryParts order) ((raised s).afterAll s.running order) :=
  ((quiet_kept (begun s)).parts (w := raised s) rfl (Quiet.begin hm rfl rfl) order).2

/-! ### The scrub and the memory (R153) -/

theorem Agree.trans_eq {R : Zone → Zone → Prop} {s t u : State} (h : Agree R s t) (h' : Agree Eq t u) : Agree R s u :=
  ⟨fun z => h'.zones z ▸ h.zones z, h.meters.trans h'.meters, h.findings.trans h'.findings,
    h.analyser.trans h'.analyser⟩

theorem zones_ext {s t : State} (h : ∀ z, s.zone z = t.zone z) : s.zones = t.zones :=
  Vector.ext fun i hi => h ⟨i, hi⟩

theorem sameButRecord_analyserBoundary {u t : State} (h : Agree SameButRecord u t) (mark : Option GridMark) :
    Agree SameButRecord (u.analyserBoundary mark) t := by
  cases mark with
  | none => exact h
  | some gm =>
    refine ⟨fun z => ?_, (meters_analyserBoundary _ _).trans h.meters, ?_, ?_⟩
    · rw [zone_analyserBoundary]
      exact h.zones z
    · simp only [State.analyserBoundary, State.findings_mapZones, h.findings]
    · simp only [State.analyserBoundary, State.analyser_mapZones, h.analyser]

/-- The state that the 16 verifications of the scrub alone would leave (R153). -/
def scrubResult (s : State) : State :=
  if s.mode = .run then s.verifyAll ((List.range 16).map fun i => entryOf (s.checker.scrub + Fin.ofNat 176 i)) else s

theorem scrubbing_begun (s : State) : Scrubbing (begun s) (begun s) (raised s) :=
  ⟨Nat.le_refl _, fun _ => .inl rfl, by rw [if_neg fun ⟨_, h0⟩ => absurd h0 (by rw [raised_verifies]; decide)]⟩

/-- After every part of the event, the memory is what the scrub alone leaves, up to R for the open records. -/
theorem memory_after_event {R : Zone → Zone → Prop} (hR : ZoneLike R) (hp : s.stage.commitPending = false)
    (hmark : ∀ u t, Agree R u t → Agree R (u.analyserBoundary (raised s).event.mark) t) (order : List BoundaryPart) :
    ((begun s).boundaryParts (order ++ allParts)).stage = s.stage ∧
      Agree R ((begun s).boundaryParts (order ++ allParts)) (scrubResult s) := by
  have fresh : Verified R (begun s) (begun s) (raised s) := by
    refine ⟨scrubbing_begun s, rfl, ?_⟩
    split
    · exact Agree.refl hR _
    · exact Agree.refl hR _
  obtain ⟨-, -, verified⟩ := (verified_kept (s := begun s) hR hp hmark).parts (w := raised s) rfl ⟨rfl, fresh⟩ (order ++ allParts)
  have left := (finished s (begun s).running order).2.2
  have same : Agree Eq (begun s) s := ⟨fun _ => rfl, rfl, rfl, rfl⟩
  refine ⟨verified.stage, verified.memory.trans_eq ?_⟩
  unfold scrubResult scrubbed
  rw [left]
  split
  · rw [if_pos ‹_›]
    exact Agree.verifyAll zoneLike_eq same _
  · rw [if_neg ‹_›]
    exact same

/-- After every part of the event, the scrub pointer has moved in RUN, and only there. -/
theorem checker_after_event (s : State) (order : List BoundaryPart) :
    ((begun s).boundaryParts (order ++ allParts)).checker =
      if s.mode = .run then { s.checker with scrub := s.checker.scrub + 16 } else s.checker := by
  have scrubbing := ((scrubbing_kept (begun s)).parts (w := raised s) rfl (scrubbing_begun s) (order ++ allParts)).2
  have left := (finished s (begun s).running order).2.2
  rw [scrubbing.checker, left]
  simp only [and_true]
  rfl

/-! ### The trim step (R11, R12) -/

theorem trim_of_pos {t : TimeBase} (h : 0 < t.pendingTrim) :
    t.trim = { t with
      partTime := min (t.partTime + min t.pendingTrim.natAbs t.grid.trimStep) 4294967295
      pendingTrim := t.pendingTrim - min t.pendingTrim.natAbs t.grid.trimStep } := if_pos h

theorem trim_of_neg {t : TimeBase} (h : t.pendingTrim < 0) :
    t.trim = { t with
      standstill := min t.pendingTrim.natAbs t.grid.trimStep
      pendingTrim := t.pendingTrim + min t.pendingTrim.natAbs t.grid.trimStep } :=
  (if_neg (by omega)).trans (if_pos h)

theorem trim_of_zero {t : TimeBase} (h : t.pendingTrim = 0) : t.trim = t :=
  (if_neg (by omega)).trans (if_neg (by omega))

/-- The work of the event leaves the time base as the tick made it, but for the work itself. -/
theorem time_boundaryParts (s : State) (order : List BoundaryPart) :
    ((begun s).boundaryParts order).time =
      { s.time with partTime := s.time.partTime + 1, divider := 0,
                    boundary := ((begun s).boundaryParts order).time.boundary } :=
  congrArg State.time (boundaryParts_onlyBoundary (begun s) order)

/-! ### The whole tick -/

/-- A delivery and its trim step change what `OnlyBoundary` names, and the time base. -/
theorem whole_frame (s : State) (order : List BoundaryPart) (f : TimeBase → TimeBase) :
    let t := ((begun s).boundaryParts order).modTime f
    t = { s with time := t.time, zones := t.zones, meters := t.meters, stage := t.stage, channels := t.channels,
                 analyser := t.analyser, findings := t.findings, checker := t.checker, attn := t.attn } := by
  have only := boundaryParts_onlyBoundary (begun s) order
  dsimp only
  rw [only]
  rfl

/-- The stage's part with a commit pending: applied between items, due during one (R29). -/
theorem stageBoundary_of_pending (hp : s.stage.commitPending = true) :
    (s.intake.hand = .idle → s.stageBoundary = s.applyCommit) ∧
      (s.intake.hand ≠ .idle → s.stageBoundary = s.modStage fun g => { g with due := true }) :=
  ⟨fun hi => by rw [State.stageBoundary, if_pos hp, if_pos hi], fun hi => by rw [State.stageBoundary, if_pos hp, if_neg hi]⟩

/-- With every entry matching, meters, stage and, at a boundary without a mark, zones are left as by the stage's part. -/
theorem stage_after_event (hm : AllMatch s) (order : List BoundaryPart) :
    let u := (begun s).boundaryParts (order ++ allParts)
    u.meters = s.stageBoundary.meters ∧ u.stage = s.stageBoundary.stage ∧
      (s.time.grid.markAt (s.time.partTime + 1) = none → u.zones = s.stageBoundary.zones) := by
  have quiet := Eve.quiet hm (order ++ allParts)
  have left := (finished s s.running order).1
  obtain ⟨meters, stage, zones⟩ := stageBoundary_congr (s := begun s) (t := s) rfl rfl rfl
  have unmarked := quiet.unmarked
  rw [afterAll_event, left] at unmarked
  refine ⟨?_, ?_, fun hmark => (unmarked hmark).trans (zones rfl)⟩
  · rw [quiet.meters, left]; exact meters
  · rw [quiet.stage, left]; exact stage

end Delivery

/-! ### The statements -/

/-- Settles O6: the zones follow the analyser's part (`Quiet`), which the share has named or left. -/
theorem boundaryTickMovesRecords : Obligations.BoundaryTickMovesRecords := by
  intro order share s b hb hs he hbt hmul hshare hg hp hm
  subst hbt
  have eve : Eve s := ⟨hb, hs, he, hmul⟩
  have mark : ∀ order, ((raised s).afterAll s.running order).event.mark = s.time.grid.markAt (s.time.partTime + 1) :=
    fun order => by rw [afterAll_event]; rfl
  have moves : ∀ order, ((raised s).afterAll s.running order).analyser = false → ∀ (z : ZoneId) (r : NightRecord),
      (s.zone z).record = some r → (((begun s).boundaryParts order).zone z).record =
        some (afterMark (s.holdActive z) r (s.time.grid.markAt (s.time.partTime + 1))) := by
    intro order hdone z r hr
    have zones := (Eve.quiet hm order).uncommitted hp
    rw [hdone, mark] at zones
    rw [zone_congr zones z]
    exact record_analyserBoundary (begun s) _ hr
  rcases hshare with rfl | rfl
  · refine ⟨_, eve.whole order, nofun, fun z r _ hr => ?_⟩
    rw [State.zone_modTime, moves _ (finished s _ order).2.1 z r hr]
    simp only [Option.some.injEq]
    exact afterMark_markAt hg _ _ r
  · refine ⟨_, eve.start order, fun z _ hleft => ?_, fun z r hnamed hr => ?_⟩
    · have zones := (Eve.quiet hm order).uncommitted hp
      have left : ((raised s).afterAll s.running order).analyser = true := by
        rw [BoundaryWork.afterAll_analyser]
        simp [raised, BoundaryEvent.begin, hleft]
      rw [left] at zones
      rw [zone_congr zones z]
      rfl
    · have named : BoundaryPart.analyser ∈ order := hnamed.resolve_left nofun
      have done : ((raised s).afterAll s.running order).analyser = false := by
        rw [BoundaryWork.afterAll_analyser]
        simp [named]
      rw [moves order done z r hr]
      simp only [Option.some.injEq]
      exact afterMark_markAt hg _ _ r

/-- Settles O4: the delivery of the event told by its invariants (`Scrubbing`, `Verified`, `Quiet`), then the trim step. -/
theorem boundaryTickTrims : Obligations.BoundaryTickTrims := by
  intro order s v b step hb hs he hbt hmul hstep hv
  subst hbt hstep
  have eve : Eve s := ⟨hb, hs, he, hmul⟩
  have time := time_boundaryParts s (order ++ allParts)
  refine ⟨⟨_, eve.whole order, whole_frame s _ _, checker_after_event s order, fun hpos => ?_, fun hneg => ?_,
    fun hzero => ?_, fun hp => ?_, fun hp hm => ?_⟩, ?_, fun hg n => s.time.grid.markAt_eq_some_iff hg _ n⟩
  · rw [State.time_modTime, time, trim_of_pos (by exact hpos)]
    simp only [hb]
  · rw [State.time_modTime, time, trim_of_neg (by exact hneg)]
    simp only [hb]
  · rw [State.time_modTime, time, trim_of_zero (by exact hzero)]
    simp only [hb]
  · obtain ⟨stage, memory⟩ := memory_after_event zoneLike_sameButRecord hp
      (fun _ _ h => sameButRecord_analyserBoundary h _) order
    subst hv
    refine ⟨stage, memory.meters, memory.findings, memory.analyser, memory.zones, fun hmark => ?_⟩
    have unmarked := memory_after_event zoneLike_eq hp (fun u t h => by
      rw [show (raised s).event.mark = none from hmark]; exact h) order
    exact zones_ext unmarked.2.zones
  · obtain ⟨meters, stage, zones⟩ := stage_after_event hm order
    obtain ⟨applied, due⟩ := stageBoundary_of_pending hp
    refine ⟨fun hi => ?_, fun hi => ?_⟩
    · rw [applied hi] at meters stage zones
      exact ⟨stage.trans (applyCommit_stage s), meters, zones⟩
    · rw [due hi] at meters stage zones
      exact ⟨stage, meters, zones⟩
  · rintro e w rfl rfl
    exact eve.start []

end Sys2Proof.Proofs
/-! ## The night records of one zone (R20, R91, R106, R158) -/

namespace Sys2Proof.Safety

open Sys2Proof Machine

/-- A zone in service under grid g has its open record, or has closed the last night on the grid (R91). -/
def NightOpen (g : Grid) (z : Zone) : Prop :=
  (∃ r, z.record = some r ∧ g.deadline r.night ≤ 4294967295 ∧ r.bins.length = g.binCount) ∨
    (z.record = none ∧ ∃ c, z.lastClose = some c ∧ 4294967295 < g.deadline (c.night + 1))

/-- The law of one zone that `RecordLaw` states of all; `running` says whether the mode is RUN. -/
structure ZoneLaw (running : Prop) (g : Grid) (z : Zone) : Prop where
  agrees : z.mark = false → z.entry.configured = 0 → z.kept = .unconfigured
  outOfService : z.inService = false → z.record = none
  inService : running → z.inService = true → NightOpen g z

theorem recordLaw_iff {s : State} : RecordLaw s ↔ ∀ z, ZoneLaw (s.mode = .run) s.time.grid (s.zone z) :=
  ⟨fun h z => ⟨h.agrees z, h.outOfService z, fun hm => h.inService hm z⟩,
    fun h => ⟨fun z => (h z).agrees, fun z => (h z).outOfService, fun hm z => (h z).inService hm⟩⟩

/-- A zone from which only a command of R135 leads away: CONFIRMED, or taken out of service by an entry fault. -/
def Held (z : Zone) : Prop := z.condition = .confirmed ∨ z.condition = .fault

/-- What a night, a calming or a hold may do to a condition: nothing to UNCONFIGURED, FAULT and CONFIRMED, and no move into
the first two. -/
def Drifts (a b : Condition) : Prop :=
  a = b ∨ ((a ≠ .unconfigured ∧ a ≠ .fault ∧ a ≠ .confirmed) ∧ b ≠ .unconfigured ∧ b ≠ .fault)

theorem Drifts.refl (a : Condition) : Drifts a a := .inl rfl

theorem Drifts.trans {a b c : Condition} (h : Drifts a b) (h' : Drifts b c) : Drifts a c := by
  unfold Drifts at *
  grind

theorem Drifts.out_iff {a b : Condition} (h : Drifts a b) :
    (b = .unconfigured ∨ b = .fault) ↔ (a = .unconfigured ∨ a = .fault) := by
  unfold Drifts at h
  grind

theorem inService_eq_false_iff {z : Zone} :
    z.inService = false ↔ (z.condition = .unconfigured ∨ z.condition = .fault) := by
  simp [Zone.inService]
  grind

/-- The condition read is the condition kept, or UNCONFIGURED for an unmarked entry with configured byte 0 (R20). -/
theorem condition_cases (z : Zone) :
    ((z.mark = false ∧ z.entry.configured = 0) ∧ z.condition = .unconfigured) ∨
      (¬(z.mark = false ∧ z.entry.configured = 0) ∧ z.condition = z.kept) := by
  by_cases h : z.mark = false ∧ z.entry.configured = 0
  · exact .inl ⟨h, z.condition_eq_unconfigured h.1 h.2⟩
  · refine .inr ⟨h, z.condition_eq_kept ?_⟩
    cases hm : z.mark
    · exact .inr fun hc => h ⟨hm, hc⟩
    · exact .inl rfl

/-- Where configured byte and condition agree, the condition kept is the one read. -/
theorem ZoneLaw.condition_eq {running : Prop} {g : Grid} {z : Zone} (h : ZoneLaw running g z) : z.condition = z.kept := by
  rcases condition_cases z with ⟨⟨hm, hc⟩, hu⟩ | ⟨-, hk⟩
  · rw [hu, h.agrees hm hc]
  · exact hk

/-- A move of one zone under grid g, from x to y, that keeps the law of its night records, opens no record where none is
open, and does not end CONFIRMED but by a fault. -/
structure ZoneKeeps (g : Grid) (x y : Zone) : Prop where
  law : ∀ running, ZoneLaw running g x → ZoneLaw running g y
  noRecord : x.record = none → y.record = none
  held : Held x → Held y

namespace ZoneKeeps

variable {g : Grid} {x y z : Zone}

theorem refl (g : Grid) (x : Zone) : ZoneKeeps g x x := ⟨fun _ => id, id, id⟩

theorem trans (h : ZoneKeeps g x y) (h' : ZoneKeeps g y z) : ZoneKeeps g x z :=
  ⟨fun r => h'.law r ∘ h.law r, h'.noRecord ∘ h.noRecord, h'.held ∘ h.held⟩

/-- A move that leaves the entry, raises no more than its mark, lets the condition drift and treats the records well. -/
theorem of_drift (entry : y.entry = x.entry) (mark : x.mark = true → y.mark = true) (drift : Drifts x.kept y.kept)
    (noRecord : x.record = none → y.record = none) (night : NightOpen g x → NightOpen g y) : ZoneKeeps g x y := by
  have blank : y.mark = false → x.mark = false := fun hy => by
    cases hx : x.mark
    · rfl
    · exact absurd (mark hx) (by simp [hy])
  refine ⟨fun running h => ?_, noRecord, fun h => ?_⟩
  · have agrees : y.mark = false → y.entry.configured = 0 → y.kept = .unconfigured := fun hm hc => by
      have := h.agrees (blank hm) (entry ▸ hc)
      rcases drift with same | ⟨⟨moved, -⟩, -⟩
      · rw [← same, this]
      · exact absurd this moved
    have condition : y.condition = y.kept := by
      rcases condition_cases y with ⟨⟨hm, hc⟩, hu⟩ | ⟨-, hk⟩
      · rw [hu, agrees hm hc]
      · exact hk
    have service : x.inService = y.inService := by
      rw [Bool.eq_iff_iff, ← not_iff_not, Bool.not_eq_true, Bool.not_eq_true, inService_eq_false_iff, inService_eq_false_iff,
        condition, h.condition_eq]
      exact drift.out_iff.symm
    exact ⟨agrees, fun hs => noRecord (h.outOfService (service ▸ hs)), fun hr hs => night (h.inService hr (service ▸ hs))⟩
  · unfold Held at h ⊢
    rcases condition_cases x with ⟨-, hu⟩ | ⟨hx, hk⟩
    · simp [hu] at h
    · rw [hk] at h
      have stays : y.kept = x.kept := by
        unfold Drifts at drift
        grind
      rw [y.condition_eq_kept ?_, stays]
      · exact h
      · by_contra hy
        simp only [not_or, Bool.not_eq_true, not_not] at hy
        exact hx ⟨blank hy.1, entry ▸ hy.2⟩

/-- A move that leaves entry, condition, open record and last close record alone. -/
theorem of_same (entry : y.entry = x.entry) (mark : x.mark = true → y.mark = true) (kept : y.kept = x.kept)
    (record : y.record = x.record) (lastClose : y.lastClose = x.lastClose) : ZoneKeeps g x y :=
  of_drift entry mark (.inl kept.symm) (record ▸ id) (by unfold NightOpen; rw [record, lastClose]; exact id)

/-- A change of the open record that keeps its night and the number of its bins. -/
theorem mapRecord (x : Zone) {f : NightRecord → NightRecord} (night : ∀ r, (f r).night = r.night)
    (bins : ∀ r, r.bins.length = g.binCount → (f r).bins.length = g.binCount) :
    ZoneKeeps g x { x with record := x.record.map f } := by
  refine of_drift rfl id (.refl _) (fun h => by simp [h]) ?_
  rintro (⟨r, hr, hn, hb⟩ | ⟨hr, hc⟩)
  · exact .inl ⟨f r, by simp [hr], by rwa [night], bins r hb⟩
  · exact .inr ⟨by simp [hr], hc⟩

/-- An open record replaced by one of the same night with as many bins. -/
theorem setRecord {r r' : NightRecord} (hr : x.record = some r) (night : r'.night = r.night)
    (bins : r.bins.length = g.binCount → r'.bins.length = g.binCount) : ZoneKeeps g x { x with record := some r' } := by
  refine of_drift rfl id (.refl _) (fun h => by simp [h] at hr) ?_
  rintro (⟨q, hq, hn, hb⟩ | ⟨hq, -⟩)
  · cases hr.symm.trans hq
    exact .inl ⟨r', rfl, by rwa [night], bins hb⟩
  · simp [hq] at hr

/-- An entry fault takes the zone out of service and its record with it (R150). -/
theorem outOfService (x : Zone) : ZoneKeeps g x x.outOfService := by
  unfold Zone.outOfService
  split
  next => exact refl g x
  next configured =>
    have fault : (¬(x.mark = false ∧ x.entry.configured = 0)) →
        ({ x with kept := .fault, record := none } : Zone).condition = .fault := fun h =>
      Zone.condition_eq_kept _ (by simpa [or_iff_not_imp_left] using h)
    refine ⟨fun running h => ?_, fun _ => rfl, fun h => ?_⟩
    · have hf := fault fun ⟨hm, hc⟩ => configured (h.agrees hm hc)
      refine ⟨fun hm hc => absurd (h.agrees hm hc) configured, fun _ => rfl, fun _ hs => ?_⟩
      simp [Zone.inService, hf] at hs
    · refine .inr (fault fun ⟨hm, hc⟩ => ?_)
      have := x.condition_eq_unconfigured hm hc
      simp [Held, this] at h

/-- A zone's last close record is written while its record is open (R107). -/
theorem writeClose (open_ : x.record ≠ none) (c : CloseRecord) : ZoneKeeps g x { x with lastClose := some c } := by
  refine of_drift rfl id (.refl _) id ?_
  rintro (hr | ⟨hr, -⟩)
  · exact .inl hr
  · exact absurd hr open_

/-- The record gives way to that of the next night, or to none after the last night on the grid (R91, R106). -/
theorem nextRecord {r : NightRecord} {c : CloseRecord} {next : Option NightRecord} (hr : x.record = some r)
    (hc : c.night = r.night)
    (hnext : (∃ r', next = some r' ∧ g.deadline r'.night ≤ 4294967295 ∧ r'.bins.length = g.binCount) ∨
      (next = none ∧ 4294967295 < g.deadline (r.night + 1))) :
    ZoneKeeps g x { x with lastClose := some c, record := next } := by
  refine of_drift rfl id (.refl _) (fun h => by simp [h] at hr) fun _ => ?_
  rcases hnext with hopen | ⟨hnone, hlast⟩
  · exact .inl hopen
  · exact .inr ⟨hnone, c, rfl, by rwa [hc]⟩

/-! ### What a night's outcome does (R127) -/

/-- Zone y is zone z with at most its memory of nights changed, and its condition drifted. -/
structure Worked (z y : Zone) : Prop where
  entry : y.entry = z.entry
  mark : y.mark = z.mark
  record : y.record = z.record
  lastClose : y.lastClose = z.lastClose
  drift : Drifts z.kept y.kept

theorem Worked.refl (z : Zone) : Worked z z := ⟨rfl, rfl, rfl, rfl, .refl _⟩

theorem Worked.trans (h : Worked x y) (h' : Worked y z) : Worked x z :=
  ⟨h'.entry.trans h.entry, h'.mark.trans h.mark, h'.record.trans h.record, h'.lastClose.trans h.lastClose,
    h.drift.trans h'.drift⟩

theorem Worked.keeps (h : Worked x y) : ZoneKeeps g x y :=
  of_drift h.entry (fun hm => by rw [h.mark, hm]) h.drift (fun hr => by rw [h.record, hr])
    (by unfold NightOpen; rw [h.record, h.lastClose]; exact id)

theorem worked_learn (z : Zone) (s : ZoneSettings) (c : Int) : Worked z (z.learn s (z.verdict s c) c) := by
  cases hv : z.verdict s c with
  | settling =>
    have settling : z.kept = .settling := by
      by_contra hk
      unfold Zone.verdict at hv
      grind
    refine ⟨rfl, rfl, rfl, rfl, ?_⟩
    show Drifts z.kept (if s.nSettle.toNat ≤ z.settling + 1 then Condition.clear else z.kept)
    rw [settling]
    split
    · exact .inr (by simp)
    · exact .refl _
  | normal =>
    unfold Zone.learn
    dsimp only
    split
    iterate 4 exact ⟨rfl, rfl, rfl, rfl, .refl _⟩
    all_goals exact .refl z
  | exceed | burst | balance | incomplete | held => exact .refl z

theorem worked_enterSuspicion (s : ZoneSettings) (h : z.kept ≠ .unconfigured ∧ z.kept ≠ .fault ∧ z.kept ≠ .confirmed) :
    Worked z (z.enterSuspicion s).1 := by
  unfold Zone.enterSuspicion
  dsimp only
  split
  · exact ⟨rfl, rfl, rfl, rfl, .inr ⟨h, by simp⟩⟩
  · exact ⟨rfl, rfl, rfl, rfl, .inr ⟨h, by simp⟩⟩

theorem worked_onExceed (z : Zone) (s : ZoneSettings) : Worked z (z.onExceed s).1 := by
  unfold Zone.onExceed
  split
  next hk =>
    split
    · exact worked_enterSuspicion s (by simp [hk])
    · exact ⟨rfl, rfl, rfl, rfl, .inr (by simp [hk])⟩
  next hk =>
    split
    · exact worked_enterSuspicion s (by simp [hk])
    · exact .refl z
  next hk => exact worked_enterSuspicion s (by simp [hk])
  all_goals exact .refl z

theorem worked_onBurst (z : Zone) : Worked z z.onBurst.1 := by
  unfold Zone.onBurst
  split
  iterate 4 exact ⟨rfl, rfl, rfl, rfl, .inr (by simp [*])⟩
  all_goals exact .refl z

theorem worked_onNormal (z : Zone) (s : ZoneSettings) : Worked z (z.onNormal s).1 := by
  have cleared (h : z.kept ≠ .unconfigured ∧ z.kept ≠ .fault ∧ z.kept ≠ .confirmed) :
      Worked z (if s.rClear.toNat ≤ z.run then ({ z with kept := .clear }, some FindingKind.cleared) else (z, none)).1 := by
    split
    · exact ⟨rfl, rfl, rfl, rfl, .inr ⟨h, by simp⟩⟩
    · exact .refl z
  unfold Zone.onNormal
  split
  iterate 3 exact cleared (by simp [*])
  all_goals exact .refl z

theorem worked_move (z : Zone) (s : ZoneSettings) (v : NightOutcome) : Worked z (z.move s v).1 := by
  cases v with
  | normal => exact worked_onNormal z s
  | exceed => exact worked_onExceed z s
  | burst => exact worked_onBurst z
  | settling | balance | incomplete | held => exact .refl z

/-- Whatever a night comes to, entry, record and last close record stay, and the condition drifts (R127, R134). -/
theorem worked_work (z : Zone) (s : ZoneSettings) (zid : ZoneId) (night : Nat) (cls : NightClass) :
    Worked z (z.work s zid night cls).1 := by
  cases cls with
  | judged complete mnf start answer factor c =>
    have learnt := worked_learn z s c
    have counted : Worked z { (z.learn s (z.verdict s c) c).addHistory
        { night := night, outcome := z.verdict s c, corrected := some c, excess := some (c - z.baseline), mnf := some mnf,
          uncorrected := answer.uncorrected } with
          run := runAfter (z.learn s (z.verdict s c) c).run (z.verdict s c) } :=
      ⟨learnt.entry, learnt.mark, learnt.record, learnt.lastClose, learnt.drift⟩
    exact counted.trans (worked_move _ s _)
  | held | membershipChanged | short | ended | balance => exact ⟨rfl, rfl, rfl, rfl, .refl _⟩

/-- WATCH becomes CLEAR (R146). -/
theorem worked_calm (z : Zone) : Worked z z.calm := by
  refine ⟨rfl, rfl, rfl, rfl, ?_⟩
  unfold Zone.calm
  dsimp only
  split
  next hk => exact .inr (by simp [hk])
  next => exact .refl _

end ZoneKeeps

end Sys2Proof.Safety

/-! ## The capture list and the gate of one channel in time (R36, R45) -/

namespace Sys2Proof.Safety

open Sys2Proof Machine

/-- A capture list in time, `now` being part time (R45). -/
structure ListInTime (now : Nat) (l : List Capture) : Prop where
  order : l.Pairwise fun older newer => captureTime older ≤ captureTime newer
  resumes : l.Pairwise fun older newer => ∀ g cg r cr, newer = .resume g cg r cr → captureTime older ≤ g
  past : ∀ r ∈ l, captureTime r ≤ now

namespace ListInTime

variable {now : Nat} {l : List Capture} {r : Capture}

theorem nil (now : Nat) : ListInTime now [] := ⟨.nil, .nil, nofun⟩

theorem sublist {l' : List Capture} (h : ListInTime now l) (sub : l'.Sublist l) : ListInTime now l' :=
  ⟨h.order.sublist sub, h.resumes.sublist sub, fun r hr => h.past r (sub.subset hr)⟩

theorem append (h : ListInTime now l) (hr : captureTime r = now)
    (older : ∀ g cg t c, r = .resume g cg t c → ∀ q ∈ l, captureTime q ≤ g) : ListInTime now (l ++ [r]) := by
  refine ⟨?_, ?_, ?_⟩
  · refine List.pairwise_append.mpr ⟨h.order, List.pairwise_singleton _ _, fun q hq r' hr' => ?_⟩
    rw [List.mem_singleton.mp hr', hr]
    exact h.past q hq
  · refine List.pairwise_append.mpr ⟨h.resumes, List.pairwise_singleton _ _, fun q hq r' hr' g cg t c he => ?_⟩
    exact older g cg t c ((List.mem_singleton.mp hr').symm.trans he) q hq
  · intro q hq
    rcases List.mem_append.mp hq with hq | hq
    · exact h.past q hq
    · rw [List.mem_singleton.mp hq, hr]

/-- A list that ends in a RESUME record: the records before it are no later than its g. -/
theorem before_resume {l : List Capture} {g t : Nat} {cg c : W32} (h : ListInTime now (l ++ [.resume g cg t c])) :
    ∀ q ∈ l, captureTime q ≤ g := fun q hq =>
  (List.pairwise_append.mp h.resumes).2.2 q hq _ (List.mem_singleton_self _) g cg t c rfl

/-- A record of this second joins the list, by replacement or merge too (R45 to R47). -/
theorem postTo (h : ListInTime now l) (hr : captureTime r = now)
    (older : ∀ g cg t c, r = .resume g cg t c → ∀ q ∈ l, captureTime q ≤ g) : ListInTime now (postTo l r) := by
  have shorter := h.sublist (List.dropLast_sublist l)
  have olderDrop := fun g cg t c he q hq => older g cg t c he q (List.mem_of_mem_dropLast hq)
  unfold Machine.postTo
  split
  · exact h.append hr older
  · split
    next g cg t0 c0 t c hlast =>
      have split := List.dropLast_append_getLast? _ hlast
      rw [← split] at h
      exact shorter.append hr fun g' _ _ _ he => by cases he; exact h.before_resume
    next => exact h
    next => exact shorter.append hr olderDrop

theorem mono {now' : Nat} (h : ListInTime now l) (later : now ≤ now') : ListInTime now' l :=
  { h with past := fun r hr => (h.past r hr).trans later }

end ListInTime

/-- A channel in time: its list, and its gate record after every record of the list (R45). -/
structure ChannelInTime (now : Nat) (c : Channel) : Prop where
  list : ListInTime now c.list
  gate : ∀ g cg, c.gateRecord = some (g, cg) → g ≤ now ∧ ∀ r ∈ c.list, captureTime r ≤ g

theorem ChannelInTime.mono {now now' : Nat} {c : Channel} (h : ChannelInTime now c) (later : now ≤ now') :
    ChannelInTime now' c :=
  ⟨h.list.mono later, fun g cg hg => ⟨(h.gate g cg hg).1.trans later, (h.gate g cg hg).2⟩⟩

theorem captureLaw_iff {s : State} : CaptureLaw s ↔ ((∀ w, s.time.boundary = some w → w.event.time = s.time.partTime) ∧
    ∀ x, ChannelInTime s.time.partTime (s.channel x)) :=
  ⟨fun h => ⟨h.delivery, fun x => ⟨⟨h.order x, h.resumes x, h.past x⟩, h.gates x⟩⟩,
    fun ⟨hd, h⟩ => ⟨hd, fun x => (h x).list.order, fun x => (h x).list.resumes, fun x => (h x).list.past,
      fun x => (h x).gate⟩⟩

/-- A channel in COUNTING or GATE-PENDING has no gate record (R36). -/
theorem ChannelLaw.no_gateRecord {c : Channel} (h : ChannelLaw c) (hs : c.state = .counting ∨ c.state = .gatePending) :
    c.gateRecord = none := by
  have := h.gateRecord
  rcases hs with hs | hs <;> simpa [hs] using this

/-- A move of one channel, from c to d, at part time `now`: it keeps the law of R36 and the order of its records, and outside
RUN puts nothing in its list. -/
structure ChannelKeeps (running : Prop) (now : Nat) (c d : Channel) : Prop where
  law : ChannelLaw c → ChannelLaw d
  inTime : ChannelLaw c → ChannelInTime now c → ChannelInTime now d
  noList : ¬running → c.list = [] → d.list = []

namespace ChannelKeeps

variable {running : Prop} {now : Nat} {c d e : Channel}

theorem refl (running : Prop) (now : Nat) (c : Channel) : ChannelKeeps running now c c := ⟨id, fun _ => id, fun _ => id⟩

theorem trans (h : ChannelKeeps running now c d) (h' : ChannelKeeps running now d e) : ChannelKeeps running now c e :=
  ⟨h'.law ∘ h.law, fun hl => h'.inTime (h.law hl) ∘ h.inTime hl, fun hn => h'.noList hn ∘ h.noList hn⟩

/-- A move that leaves the list, and keeps the gate record, drops it or dates it now. -/
theorem of_gate (list : d.list = c.list)
    (gate : d.gateRecord = c.gateRecord ∨ d.gateRecord = none ∨ ∃ cg, d.gateRecord = some (now, cg))
    (law : ChannelLaw c → ChannelLaw d) : ChannelKeeps running now c d := by
  refine ⟨law, fun _ h => ⟨list ▸ h.list, ?_⟩, fun _ h => list.trans h⟩
  intro g cg hg
  rw [list]
  rcases gate with same | none_ | ⟨cg', now_⟩
  · exact h.gate g cg (same ▸ hg)
  · simp [none_] at hg
  · rw [now_] at hg
    cases hg
    exact ⟨Nat.le_refl _, h.list.past⟩

/-- A move that leaves list, mode, state and gate record. -/
theorem of_same (list : d.list = c.list) (mode : d.mode = c.mode) (state : d.state = c.state)
    (gate : d.gateRecord = c.gateRecord) : ChannelKeeps running now c d :=
  of_gate list (.inl gate) fun ⟨off, status, gr⟩ =>
    ⟨by rw [mode, state]; exact off, by rw [mode, state]; exact status, by rw [gate, state]; exact gr⟩

/-- The states of a COUNT channel (R36). -/
def Counts (st : ChanState) : Prop := st = .counting ∨ st = .gatePending ∨ st = .gated ∨ st = .releaseWait

/-- The law of a COUNT channel. -/
theorem law_of_count (mode : d.mode = .count) (state : Counts d.state)
    (gate : d.gateRecord.isSome ↔ (d.state = .gated ∨ d.state = .releaseWait)) : ChannelLaw d := by
  unfold Counts at state
  refine ⟨?_, ?_, gate⟩
  · rw [mode]; grind
  · rw [mode]; grind

theorem mode_of_counts (h : ChannelLaw c) (state : Counts c.state) : c.mode = .count := by
  obtain ⟨off, status, -⟩ := h
  unfold Counts at state
  cases hm : c.mode
  · have := off.mp hm; grind
  · rfl
  · have := status.mp hm; grind

/-- The law after a move among the states of a COUNT channel. -/
theorem law_of_counts (mode : d.mode = c.mode) (before : Counts c.state) (after : Counts d.state)
    (gate : d.gateRecord.isSome ↔ (d.state = .gated ∨ d.state = .releaseWait)) (h : ChannelLaw c) : ChannelLaw d :=
  law_of_count (mode.trans (mode_of_counts h before)) after gate

/-- A move between GATED and RELEASE-WAIT, or between COUNTING and GATE-PENDING, keeps the gate record (R40 to R42). -/
theorem move (list : d.list = c.list) (mode : d.mode = c.mode) (gate : d.gateRecord = c.gateRecord) (before : Counts c.state)
    (after : Counts d.state)
    (same : (d.state = .gated ∨ d.state = .releaseWait) ↔ (c.state = .gated ∨ c.state = .releaseWait)) :
    ChannelKeeps running now c d :=
  of_gate list (.inl gate) fun h => law_of_counts mode before after (by rw [gate, same]; exact h.gateRecord) h

/-- A channel becomes GATED now (R40, R41). -/
theorem gate (before : Counts c.state) (cg : W32) : ChannelKeeps running now c (c.gate now cg) :=
  of_gate rfl (.inr (.inr ⟨cg, rfl⟩))
    (law_of_counts (c := c) rfl before (.inr (.inr (.inl rfl))) (by simp [Channel.gate]))

/-- The gate of a COUNT channel evaluated afresh (R49, R52): GATED now, or COUNTING. -/
theorem afresh (list : d.list = c.list) (mode : d.mode = .count)
    (state : (d.state = .counting ∧ d.gateRecord = none) ∨ (d.state = .gated ∧ ∃ cg, d.gateRecord = some (now, cg))) :
    ChannelKeeps running now c d :=
  of_gate list (.inr (state.imp And.right And.right)) fun _ => law_of_count mode (by unfold Counts; grind) (by grind)

/-- The gate record goes and the channel counts (R41, R42). -/
theorem ungate (list : d.list = c.list) (mode : d.mode = c.mode) (before : Counts c.state) (state : d.state = .counting)
    (gate : d.gateRecord = none) : ChannelKeeps running now c d :=
  of_gate list (.inr (.inl gate)) fun h => law_of_counts mode before (.inl state) (by simp [gate, state]) h

/-- A record of this second is posted to a channel without a gate record (R43, R45). -/
theorem post {r : Capture} (hr : captureTime r = now) (kind : ∀ g cg t x, r ≠ .resume g cg t x)
    (hs : c.state = .counting ∨ c.state = .gatePending) (run : running) : ChannelKeeps running now c (c.post r) := by
  refine ⟨fun h => ⟨h.off, h.status, h.gateRecord⟩, fun hl h => ⟨?_, ?_⟩, fun hn => absurd run hn⟩
  · exact h.list.postTo hr fun g cg t x he => absurd he (kind g cg t x)
  · intro g cg hg
    have : c.gateRecord = some (g, cg) := hg
    simp [hl.no_gateRecord hs] at this

/-- The channel resumes: its RESUME record is posted from the gate record, which goes (R42, R44). -/
theorem resume {g : Nat} {cg tally : W32} (hg : c.gateRecord = some (g, cg)) (hs : c.state = .gated ∨ c.state = .releaseWait)
    (run : running) :
    ChannelKeeps running now c
      { c.post (.resume g cg now tally) with gateRecord := none, phase := 0, state := .counting } := by
  refine ⟨law_of_counts rfl (.inr (.inr hs)) (.inl rfl) (by simp), fun _ h => ⟨?_, nofun⟩, fun hn => absurd run hn⟩
  exact h.list.postTo rfl fun _ _ _ _ he => by cases he; exact (h.gate g cg hg).2

/-- Records leave a list. -/
theorem shorten (sub : d.list.Sublist c.list) (mode : d.mode = c.mode) (state : d.state = c.state)
    (gate : d.gateRecord = c.gateRecord) : ChannelKeeps running now c d := by
  refine ⟨fun ⟨off, status, gr⟩ => ⟨by rw [mode, state]; exact off, by rw [mode, state]; exact status,
    by rw [gate, state]; exact gr⟩, fun _ h => ⟨h.list.sublist sub, fun g cg hg => ?_⟩, fun _ hc => ?_⟩
  · obtain ⟨past, older⟩ := h.gate g cg (gate ▸ hg)
    exact ⟨past, fun r hr => older r (sub.subset hr)⟩
  · rw [hc] at sub
    exact List.sublist_nil.mp sub

end ChannelKeeps

end Sys2Proof.Safety

/-! ## The meter table and the table a commit would make (R19, R27, R30) -/

namespace Sys2Proof.Safety

open Sys2Proof Machine

variable {s t : State}

/-- A move of a slot that leaves its binding, and leaves it bound or unbound. -/
structure SlotKeeps (x y : MeterSlot) : Prop where
  unbound : y.state = .unbound ↔ x.state = .unbound
  binding : y.binding = x.binding

theorem SlotKeeps.refl (x : MeterSlot) : SlotKeeps x x := ⟨.rfl, rfl⟩

theorem SlotKeeps.trans {x y z : MeterSlot} (h : SlotKeeps x y) (h' : SlotKeeps y z) : SlotKeeps x z :=
  ⟨h'.unbound.trans h.unbound, h'.binding.trans h.binding⟩

theorem bound_iff (x : MeterSlot) : x.bound = true ↔ x.state ≠ .unbound := by simp [MeterSlot.bound]

theorem SlotKeeps.bound_eq {x y : MeterSlot} (h : SlotKeeps x y) : y.bound = x.bound := by
  rw [Bool.eq_iff_iff, bound_iff, bound_iff]
  exact not_congr h.unbound

theorem SlotKeeps.outOfService (x : MeterSlot) : SlotKeeps x x.outOfService := by
  unfold MeterSlot.outOfService
  split
  next hb => exact ⟨by simpa using (bound_iff x).mp hb, rfl⟩
  next => exact .refl x

/-- A slot becomes LIVE or DOUBTFUL only when it is bound (R55). -/
theorem SlotKeeps.become (x : MeterSlot) {st : SlotState} (hs : st ≠ .unbound) : SlotKeeps x (x.become st) := by
  unfold MeterSlot.become
  split
  next => exact .refl x
  next h => exact ⟨by simp_all [MeterSlot.bound], rfl⟩

/-! ### The resulting table -/

theorem tableOf_congr (h : ∀ m, SlotKeeps (s.meter m) (t.meter m)) : tableOf t = tableOf s := by
  funext m
  simp only [tableOf, (h m).unbound, (h m).binding]

theorem resulting_congr (h : ∀ m, SlotKeeps (s.meter m) (t.meter m)) (stage : t.stage.bindings = s.stage.bindings) :
    t.resulting = s.resulting := by
  funext m
  simp only [State.resulting, stage, (h m).bound_eq, (h m).binding]

/-- The resulting table at a slot, by its pending binding (R27). -/
theorem resulting_eq (s : State) (m : SlotId) :
    s.resulting m = match s.stage.bindings.find? fun p => p.slot = m with
      | some p => if p.binding.source = 0 then none else some p.binding
      | none => tableOf s m := by
  unfold State.resulting tableOf
  cases s.stage.bindings.find? fun p => p.slot = m with
  | some p => rfl
  | none => cases hs : (s.meter m).state <;> simp [MeterSlot.bound, hs]

theorem find?_slot_eq_some {ps : List PendingBinding} (nodup : (ps.map (·.slot)).Nodup) {p : PendingBinding} (hp : p ∈ ps) :
    (ps.find? fun q => q.slot = p.slot) = some p := by
  induction ps with
  | nil => cases hp
  | cons q ps ih =>
    obtain ⟨fresh, nodup⟩ := List.nodup_cons.mp nodup
    rcases List.mem_cons.mp hp with rfl | hp
    · simp
    · have : q.slot ≠ p.slot := fun he => fresh (List.mem_map.mpr ⟨p, hp, he.symm⟩)
      simp [this, ih nodup hp]

/-- The slot's binding after a pending binding is applied to it: none for NONE (R30). -/
theorem tableOf_apply (x : MeterSlot) (b : MeterBinding) :
    (if (x.apply b).state = .unbound then none else some (x.apply b).binding) = if b.source = 0 then none else some b := by
  unfold MeterSlot.apply
  dsimp only
  split
  · cases x.state <;> rfl
  · split
    iterate 3
      next hs =>
        split
        · simp [hs]
        · simp
    all_goals simp

/-- The pending bindings reach each its own slot (R24, R30). -/
theorem meter_applyBindings (s : State) {ps : List PendingBinding} (nodup : (ps.map (·.slot)).Nodup) (m : SlotId) :
    (ps.foldl (fun t p => t.modMeter p.slot (·.apply p.binding)) s).meter m =
      match ps.find? fun p => p.slot = m with
      | some p => (s.meter m).apply p.binding
      | none => s.meter m := by
  induction ps generalizing s with
  | nil => rfl
  | cons p ps ih =>
    obtain ⟨fresh, nodup⟩ := List.nodup_cons.mp nodup
    rw [List.foldl_cons, ih _ nodup]
    by_cases hm : p.slot = m
    · subst hm
      have none_ : (ps.find? fun q => q.slot = p.slot) = none := by
        simp only [List.find?_eq_none, decide_eq_true_eq]
        exact fun q hq he => fresh (List.mem_map.mpr ⟨q, hq, he⟩)
      simp [none_]
    · simp [hm, Ne.symm hm]

theorem meter_applyCommit (s : State) (nodup : (s.stage.bindings.map (·.slot)).Nodup) (m : SlotId) :
    s.applyCommit.meter m = match s.stage.bindings.find? fun p => p.slot = m with
      | some p => (s.meter m).apply p.binding
      | none => s.meter m := by
  rw [← meter_applyBindings s nodup m]
  simp only [State.applyCommit, State.followMembers, State.meter_modStage, State.meter_mapZones]
  rfl

/-- A commit makes the table that its validation looked at (R27, R30). -/
theorem tableOf_applyCommit (s : State) (nodup : (s.stage.bindings.map (·.slot)).Nodup) :
    tableOf s.applyCommit = s.resulting := by
  funext m
  rw [resulting_eq, tableOf, meter_applyCommit s nodup m]
  cases s.stage.bindings.find? fun p => p.slot = m with
  | some p => exact tableOf_apply _ _
  | none => rfl

/-! ### The tests of a commit (R27) -/

/-- Tests 2 to 4 of a pending binding on the resulting table. -/
structure Fits (s : State) (p : PendingBinding) : Prop where
  members : ∀ q ∈ memberships p.binding, s.resultingMembers q.1 ≤ 12
  tag : ∀ k b, k ≠ p.slot → s.resulting k = some b → b.tag ≠ p.binding.tag
  channel : p.binding.source = 2 →
    (∀ k b, k ≠ p.slot → s.resulting k = some b → b.source = 2 → b.channel ≠ p.binding.channel) ∧
      ∃ x : ChanId, p.binding.channel.toNat = x.val ∧ (s.channel x).mode = .count

theorem Fits.congr {p : PendingBinding} (h : Fits s p) (table : t.resulting = s.resulting)
    (channels : ∀ x, t.channel x = s.channel x) : Fits t p := by
  obtain ⟨members, tag, channel⟩ := h
  refine ⟨?_, by rwa [table], by simpa only [table, channels] using channel⟩
  simpa only [State.resultingMembers, table] using members

theorem otherSlot_eq_none_iff (s : State) (m : SlotId) (test : MeterBinding → Bool) :
    s.otherSlot m test = none ↔ ∀ k b, k ≠ m → s.resulting k = some b → test b = false := by
  simp only [State.otherSlot, List.find?_eq_none, List.mem_finRange, forall_const, Bool.and_eq_true, bne_iff_ne, not_and,
    Bool.not_eq_true]
  refine ⟨fun h k b hk hb => ?_, fun h k hk => ?_⟩
  · have := h k hk
    rwa [hb] at this
  · cases hb : s.resulting k with
    | none => rfl
    | some b => exact h k b hk hb

theorem testMembers_eq_none_iff (s : State) (m : SlotId) (zs : List ZoneId) :
    s.testMembers m zs = none ↔ ∀ z ∈ zs, s.resultingMembers z ≤ 12 := by
  simp [State.testMembers]

theorem testTag_eq_none_iff (s : State) (p : PendingBinding) :
    s.testTag p = none ↔ ∀ k b, k ≠ p.slot → s.resulting k = some b → b.tag ≠ p.binding.tag := by
  simp [State.testTag, otherSlot_eq_none_iff]

theorem isPulse_iff (b : MeterBinding) : isPulse b = true ↔ b.source = 2 := by simp [isPulse]

theorem chanOf_eq_some_iff (b : Byte) (x : ChanId) : chanOf b = some x ↔ b.toNat = x.val := by
  unfold chanOf
  split
  next h => simp [Fin.ext_iff]
  next h => simp; omega

theorem testChannel_eq_none_iff (s : State) (p : PendingBinding) :
    s.testChannel p = none ↔ (p.binding.source = 2 →
      (∀ k b, k ≠ p.slot → s.resulting k = some b → b.source = 2 → b.channel ≠ p.binding.channel) ∧
        ∃ x : ChanId, p.binding.channel.toNat = x.val ∧ (s.channel x).mode = .count) := by
  simp only [State.testChannel, isPulse_iff]
  split
  next pulse =>
    simp only [pulse, forall_const]
    split
    next hn =>
      simp only [reduceCtorEq, false_iff, not_and, not_exists]
      exact fun _ x hx => by simp [(chanOf_eq_some_iff _ x).mpr hx] at hn
    next x hx =>
      have hx := (chanOf_eq_some_iff _ x).mp hx
      have only : (∃ y : ChanId, p.binding.channel.toNat = y.val ∧ (s.channel y).mode = .count) ↔
          (s.channel x).mode = .count :=
        ⟨fun ⟨y, hy, hm⟩ => (Fin.ext (hx.symm.trans hy) : x = y) ▸ hm, fun hm => ⟨x, hx, hm⟩⟩
      rw [only, ite_eq_right_iff]
      simp only [reduceCtorEq, imp_false, Bool.or_eq_true, not_or, Bool.not_eq_true, Option.isSome_eq_false_iff,
        Option.isNone_iff_eq_none, otherSlot_eq_none_iff, bne_iff_ne, ne_eq, not_not]
      simp [isPulse]
  next other => exact ⟨fun _ pulse => absurd pulse other, fun _ => rfl⟩

/-- Tests 2 to 4 as the model makes them, the first that fails being named. -/
theorem tests_eq_none_iff (s : State) (p : PendingBinding) :
    (s.testMembers p.slot ((memberships p.binding).map Prod.fst)).or ((s.testTag p).or (s.testChannel p)) = none ↔
      Fits s p := by
  simp only [Option.or_eq_none_iff, testMembers_eq_none_iff, testTag_eq_none_iff, testChannel_eq_none_iff, List.mem_map,
    forall_exists_index, and_imp, forall_apply_eq_imp_iff₂]
  exact ⟨fun ⟨m, t, c⟩ => ⟨m, t, c⟩, fun ⟨m, t, c⟩ => ⟨m, t, c⟩⟩

theorem memberships_length (b : MeterBinding) : (memberships b).length ≤ 2 := by
  unfold memberships
  exact (List.length_filterMap_le _ _).trans ((List.length_take_le' _ _).trans (by simp))

/-- When every pending binding fits, the resulting table obeys the law of R19. -/
theorem tableOk_resulting (law : MeterTableLaw s)
    (fits : ∀ p ∈ s.stage.bindings, p.binding.source ≠ 0 → Fits s p) : TableOk s.resulting := by
  have cases_ : ∀ m b, s.resulting m = some b →
      (∃ p ∈ s.stage.bindings, p.slot = m ∧ p.binding = b ∧ b.source ≠ 0) ∨ tableOf s m = some b := by
    intro m b hb
    rw [resulting_eq] at hb
    split at hb
    next p hp =>
      have hmem := List.mem_of_find?_eq_some hp
      have hslot : p.slot = m := by simpa using List.find?_some hp
      split at hb
      · cases hb
      next source => cases hb; exact .inl ⟨p, hmem, hslot, rfl, source⟩
    next => exact .inr hb
  refine ⟨fun m k b c hb hc tags => ?_, fun m k b c hb hc sb sc chans => ?_, fun m b hb => ⟨memberships_length b, ?_⟩, fun z => ?_⟩
  · by_contra hne
    rcases cases_ m b hb with ⟨p, hp, rfl, rfl, hs⟩ | hb'
    · exact (fits p hp hs).tag k c (Ne.symm hne) hc tags.symm
    · rcases cases_ k c hc with ⟨p, hp, rfl, rfl, hs⟩ | hc'
      · exact (fits p hp hs).tag m b hne hb tags
      · exact hne (law.table.tags m k b c hb' hc' tags)
  · by_contra hne
    rcases cases_ m b hb with ⟨p, hp, rfl, rfl, hs⟩ | hb'
    · exact ((fits p hp hs).channel sb).1 k c (Ne.symm hne) hc sc chans.symm
    · rcases cases_ k c hc with ⟨p, hp, rfl, rfl, hs⟩ | hc'
      · exact ((fits p hp hs).channel sc).1 m b hne hb sb chans
      · exact hne (law.table.channels m k b c hb' hc' sb sc chans)
  · rcases cases_ m b hb with ⟨p, hp, -, rfl, hs⟩ | hb'
    · exact law.staged p hp hs
    · exact (law.table.distinct m b hb').2
  · by_cases staged : ∃ p ∈ s.stage.bindings, p.binding.source ≠ 0 ∧ ∃ q ∈ memberships p.binding, q.1 = z
    · obtain ⟨p, hp, hs, q, hq, rfl⟩ := staged
      exact (fits p hp hs).members q hq
    · refine Nat.le_trans (List.countP_mono_left fun m _ hm => ?_) (law.table.members z)
      split at hm
      next b hb =>
        rcases cases_ m b hb with ⟨p, hp, -, rfl, hs⟩ | hb'
        · obtain ⟨q, hq, hz⟩ := List.any_eq_true.mp hm
          exact absurd ⟨p, hp, hs, q, hq, of_decide_eq_true hz⟩ staged
        · rw [hb']
          exact hm
      next => cases hm

/-! ### The law kept -/

/-- The law of the meter table, with one pending binding for each slot (R24). -/
structure TableInv (s : State) : Prop where
  slots : (s.stage.bindings.map (·.slot)).Nodup
  law : MeterTableLaw s

theorem TableInv.of_slots (h : TableInv s) (slots : ∀ m, SlotKeeps (s.meter m) (t.meter m))
    (bindings : t.stage.bindings = s.stage.bindings) (pending : t.stage.commitPending = s.stage.commitPending) :
    TableInv t := by
  refine ⟨bindings ▸ h.slots, ?_, bindings ▸ h.law.staged, fun hp => ?_⟩
  · rw [tableOf_congr slots]
    exact h.law.table
  · rw [resulting_congr slots bindings]
    exact h.law.committed (pending ▸ hp)

/-- The application of a commit whose table obeys the law (R30). -/
theorem TableInv.applyCommit (h : TableInv s) (ok : TableOk s.resulting) : TableInv s.applyCommit where
  slots := List.nodup_nil
  law := ⟨by rw [tableOf_applyCommit s h.slots]; exact ok, nofun, nofun⟩

theorem TableInv.emptied (h : TableInv s) : TableInv (s.modStage Stage.emptied) := ⟨List.nodup_nil, h.law.table, nofun, nofun⟩

theorem mem_insertPending {p q : PendingBinding} {ps : List PendingBinding} :
    q ∈ insertPending p ps ↔ q = p ∨ q ∈ ps := by
  rw [(insertPending_perm p ps).mem_iff, List.mem_cons]

theorem mem_write {g : Stage} {p q : PendingBinding} : q ∈ (g.write p).bindings ↔ q = p ∨ (q ∈ g.bindings ∧ q.slot ≠ p.slot) := by
  simp [Stage.write, mem_insertPending]

theorem zoneOf_injective {a b : Byte} {z : ZoneId} (ha : zoneOf a = some z) (hb : zoneOf b = some z) : a = b := by
  unfold zoneOf at ha hb
  split at ha
  · split at hb
    · cases ha
      simp only [Option.some.injEq, Fin.mk.injEq] at hb
      exact (BitVec.eq_of_toNat_eq hb).symm
    · cases hb
  · cases ha

/-- A binding that names two zones in different bytes names no zone twice (R25). -/
theorem memberships_nodup {b : MeterBinding} (h : b.count.toNat < 2 ∨ b.zone1 ≠ b.zone2) :
    ((memberships b).map (·.1)).Nodup := by
  rcases h with few | differ
  · have : (memberships b).length ≤ 1 :=
      (List.length_filterMap_le _ _).trans ((List.length_take_le _ _).trans (Nat.le_of_lt_succ few))
    match hm : memberships b with
    | [] => simp
    | [_] => simp
    | _ :: _ :: _ => rw [hm] at this; simp at this
  · refine List.Nodup.sublist ?_ (?_ : (([(b.zone1, b.dir1), (b.zone2, b.dir2)].filterMap
      fun p => (zoneOf p.1).map fun z => (z, dirOf p.2)).map (·.1)).Nodup)
    · exact ((List.take_sublist _ _).filterMap _).map _
    · cases h1 : zoneOf b.zone1 with
      | none => cases h2 : zoneOf b.zone2 <;> simp [h1, h2]
      | some y =>
        cases h2 : zoneOf b.zone2 with
        | none => simp [h1, h2]
        | some z =>
          have : y ≠ z := fun he => differ (zoneOf_injective h1 (he ▸ h2))
          simpa [h1, h2] using this

/-- A binding that STAGE-METER stores names no zone twice (R25). -/
theorem storedBinding_nodup {b : MeterBinding} (h : bindingFault b = none) :
    ((memberships (storedBinding b)).map (·.1)).Nodup := by
  unfold storedBinding
  split
  · exact memberships_nodup (.inl (by decide))
  next source =>
    apply memberships_nodup
    by_cases few : b.count.toNat < 2
    · exact .inl few
    · refine .inr ?_
      have fault : boundBindingFault b = none := by
        unfold bindingFault at h
        grind
      have passes := firstFailing_eq_none.mp fault (19, b.count.toNat < 2 || b.zone1 != b.zone2) (by simp)
      have one : ¬b.count.toNat < 1 := by omega
      simp only [few, one, if_false]
      simpa [few] using passes

theorem TableInv.write (h : TableInv s) (free : s.stage.commitPending = false) {m : SlotId} {b : MeterBinding}
    (ok : bindingFault b = none) : TableInv (s.modStage fun g => g.write ⟨m, storedBinding b⟩) where
  slots := by
    have perm := insertPending_perm ⟨m, storedBinding b⟩ (s.stage.bindings.filter fun q => q.slot != m)
    refine ((perm.map (·.slot)).nodup_iff).mpr (List.nodup_cons.mpr ⟨?_, h.slots.sublist (List.filter_sublist.map _)⟩)
    simp
  law := by
    refine ⟨h.law.table, fun p hp source => ?_, fun hp => ?_⟩
    · rcases mem_write.mp hp with rfl | ⟨hp, -⟩
      · exact storedBinding_nodup ok
      · exact h.law.staged p hp source
    · have : s.stage.commitPending = true := hp
      simp [free] at this

end Sys2Proof.Safety

/-! ## What every part of a step keeps: one rule for each writer of the state -/

namespace Sys2Proof.Safety

open Sys2Proof Machine

/-- The capture lists in time, with what their order rests on: part time within its range (R2), no record outside RUN (R52) and
the law of each channel (R36). -/
structure Timely (s : State) : Prop where
  partTime : s.time.partTime ≤ 4294967295
  lists : s.mode ≠ .run → ∀ c, (s.channel c).list = []
  lawful : ChannelsLawful s
  law : CaptureLaw s

/-- The way from s to t keeps each of the block's laws. -/
structure LawsKept (s t : State) : Prop where
  onlyInRun : OnlyInRun s → OnlyInRun t
  channels : ChannelsLawful s → ChannelsLawful t
  records : RecordLaw s → RecordLaw t
  table : TableInv s → TableInv t
  timely : Timely s → Timely t

/-- The way from s to t keeps the laws, and ends CONFIRMED in no zone but by an entry fault. -/
structure Keeps (s t : State) : Prop extends LawsKept s t where
  held : ∀ z, Held (s.zone z) → Held (t.zone z)

theorem LawsKept.trans {s t u : State} (h : LawsKept s t) (h' : LawsKept t u) : LawsKept s u :=
  ⟨h'.onlyInRun ∘ h.onlyInRun, h'.channels ∘ h.channels, h'.records ∘ h.records, h'.table ∘ h.table, h'.timely ∘ h.timely⟩

/-- A request's owner takes it, or the link alone changes (R178, R179, R188). -/
theorem request_cases (s : State) (c : Instr) (act : State → State) :
    (∃ f : Link → Link, s.request c act = s.modLink f) ∨ ∃ f : Link → Link, s.request c act = act (s.modLink f) := by
  unfold State.request
  split
  · exact .inl ⟨id, rfl⟩
  · split
    · exact .inl ⟨id, rfl⟩
    · split
      · exact .inr ⟨_, rfl⟩
      · split
        · exact .inr ⟨id, rfl⟩
        · exact .inl ⟨_, rfl⟩

namespace Keeps

variable {s t u : State}

theorem refl (s : State) : Keeps s s := ⟨⟨id, id, id, id, id⟩, fun _ => id⟩

theorem trans (h : Keeps s t) (h' : Keeps t u) : Keeps s u := ⟨h.toLawsKept.trans h'.toLawsKept, fun z => h'.held z ∘ h.held z⟩

/-- A move within one mode and one time, told by its zones, its channels and its meter table. `now` is the time that records
are given, part time in a state whose event in delivery is of this second. -/
theorem of_parts (mode : t.mode = s.mode) (time : t.time = s.time) {now : Nat}
    (now_eq : Timely s → now = s.time.partTime)
    (zones : ∀ z, ZoneKeeps s.time.grid (s.zone z) (t.zone z))
    (channels : ∀ x, ChannelKeeps (s.mode = .run) now (s.channel x) (t.channel x))
    (table : TableInv s → TableInv t) : Keeps s t where
  onlyInRun h := ⟨fun hm z => (zones z).noRecord (h.records (mode ▸ hm) z),
    fun hm x => (channels x).noList (mode ▸ hm) (h.captures (mode ▸ hm) x)⟩
  channels h x := (channels x).law (h x)
  records h := recordLaw_iff.mpr fun z => by rw [mode, time]; exact (zones z).law _ (recordLaw_iff.mp h z)
  table := table
  timely h := by
    obtain rfl := now_eq h
    obtain ⟨partTime, lists, lawful, law⟩ := h
    obtain ⟨delivery, inTime⟩ := captureLaw_iff.mp law
    exact ⟨time ▸ partTime, fun hm x => (channels x).noList (mode ▸ hm) (lists (mode ▸ hm) x), fun x => (channels x).law (lawful x),
      captureLaw_iff.mpr ⟨time ▸ delivery, fun x => by rw [time]; exact (channels x).inTime (lawful x) (inTime x)⟩⟩
  held z := (zones z).held

/-- A move outside zones, meters, stage, channels, time base and mode. -/
theorem of_same (zones : t.zones = s.zones) (meters : t.meters = s.meters) (stage : t.stage = s.stage)
    (channels : t.channels = s.channels) (time : t.time = s.time) (mode : t.mode = s.mode) : Keeps s t := by
  refine of_parts mode time (fun _ => rfl) (fun z => ?_) (fun x => ?_)
    fun h => h.of_slots (fun m => ?_) (by rw [stage]) (by rw [stage])
  · rw [Proofs.zone_congr zones]; exact .refl _ _
  · rw [show t.channel x = s.channel x by simp only [State.channel, channels]]; exact .refl _ _ _
  · rw [Proofs.meter_congr meters]; exact .refl _

/-! ### One writer each -/

theorem mapZones (h : Keeps s u) {f : ZoneId → Zone → Zone} (hf : ∀ z, ZoneKeeps u.time.grid (u.zone z) (f z (u.zone z))) :
    Keeps s (u.mapZones f) :=
  h.trans (of_parts (State.mode_mapZones u f) (State.time_mapZones u f) (fun _ => rfl)
    (fun z => by rw [State.zone_mapZones]; exact hf z) (fun x => by rw [State.channel_mapZones]; exact .refl _ _ _)
    fun hi => hi.of_slots (fun m => by rw [State.meter_mapZones]; exact .refl _) (by rw [State.stage_mapZones])
      (by rw [State.stage_mapZones]))

theorem putZone (h : Keeps s u) (z : ZoneId) {x : Zone} (hx : ZoneKeeps u.time.grid (u.zone z) x) : Keeps s (u.putZone z x) := by
  refine h.trans (of_parts rfl rfl (fun _ => rfl) (fun y => ?_) (fun _ => .refl _ _ _)
    fun hi => hi.of_slots (fun _ => .refl _) rfl rfl)
  rw [State.zone_putZone]
  split
  next same => rw [same]; exact hx
  next => exact .refl _ _

theorem modZone (h : Keeps s u) (z : ZoneId) {f : Zone → Zone} (hf : ZoneKeeps u.time.grid (u.zone z) (f (u.zone z))) :
    Keeps s (u.modZone z f) := h.putZone z hf

theorem modMeter (h : Keeps s u) (m : SlotId) {f : MeterSlot → MeterSlot} (hf : SlotKeeps (u.meter m) (f (u.meter m))) :
    Keeps s (u.modMeter m f) := by
  refine h.trans (of_parts rfl rfl (fun _ => rfl) (fun _ => .refl _ _) (fun _ => .refl _ _ _)
    fun hi => hi.of_slots (fun k => ?_) rfl rfl)
  rw [State.meter_modMeter]
  split
  next same => rw [same]; exact hf
  next => exact .refl _

theorem modChannel (h : Keeps s u) (x : ChanId) {f : Channel → Channel} {now : Nat}
    (now_eq : Timely u → now = u.time.partTime)
    (hf : ChannelKeeps (u.mode = .run) now (u.channel x) (f (u.channel x))) : Keeps s (u.modChannel x f) := by
  refine h.trans (of_parts rfl rfl now_eq (fun _ => .refl _ _) (fun y => ?_) fun hi => hi.of_slots (fun _ => .refl _) rfl rfl)
  rw [State.channel_modChannel]
  split
  next same => rw [same]; exact hf
  next => exact .refl _ _ _

/-- A change of a channel that leaves its list, its mode, its state and its gate record. -/
theorem markChannel (h : Keeps s u) (x : ChanId) {f : Channel → Channel}
    (hf : ∀ c, (f c).list = c.list ∧ (f c).mode = c.mode ∧ (f c).state = c.state ∧ (f c).gateRecord = c.gateRecord) :
    Keeps s (u.modChannel x f) :=
  h.modChannel x (fun _ => rfl) (.of_same (hf _).1 (hf _).2.1 (hf _).2.2.1 (hf _).2.2.2)

theorem modIntake (h : Keeps s u) (f : Intake → Intake) : Keeps s (u.modIntake f) := h.trans (of_same rfl rfl rfl rfl rfl rfl)

theorem modAnalyser (h : Keeps s u) (f : Analyser → Analyser) : Keeps s (u.modAnalyser f) :=
  h.trans (of_same rfl rfl rfl rfl rfl rfl)

theorem setFindings (h : Keeps s u) (q : List Finding) : Keeps s (u.setFindings q) := h.trans (of_same rfl rfl rfl rfl rfl rfl)

theorem modChecker (h : Keeps s u) (f : Checker → Checker) : Keeps s (u.modChecker f) :=
  h.trans (of_same rfl rfl rfl rfl rfl rfl)

theorem modAttn (h : Keeps s u) (f : Attention → Attention) : Keeps s (u.modAttn f) := h.trans (of_same rfl rfl rfl rfl rfl rfl)

theorem modLink (h : Keeps s u) (f : Link → Link) : Keeps s (u.modLink f) := h.trans (of_same rfl rfl rfl rfl rfl rfl)

theorem setTable (h : Keeps s u) (t : Vector W16 17) : Keeps s (u.setTable t) := h.trans (of_same rfl rfl rfl rfl rfl rfl)

theorem setPending (s : State) (cs : List Instr) : Keeps s { s with pending := cs } := of_same rfl rfl rfl rfl rfl rfl

/-- A change of the mode controller that leaves the mode. -/
theorem modCtl (h : Keeps s u) {f : ModeControl → ModeControl} (hf : (f u.ctl).mode = u.ctl.mode) : Keeps s (u.modCtl f) :=
  h.trans (of_same rfl rfl rfl rfl rfl hf)

/-- A change among the modes other than RUN. -/
theorem modCtl_outside (h : Keeps s u) {f : ModeControl → ModeControl} (before : u.mode ≠ .run) (after : (f u.ctl).mode ≠ .run) :
    Keeps s (u.modCtl f) :=
  h.trans
    { onlyInRun := fun hi => ⟨fun _ => hi.records before, fun _ => hi.captures before⟩
      channels := id
      records := fun hi => { hi with inService := fun hr => absurd hr after }
      table := fun hi => hi.of_slots (fun _ => .refl _) rfl rfl
      timely := fun hi => ⟨hi.partTime, fun _ => hi.lists before, hi.lawful, { hi.law with }⟩
      held := fun _ => id }

/-- A change of the time base that keeps part time, grid and the boundary time of the event in delivery. -/
theorem modTime (h : Keeps s u) {f : TimeBase → TimeBase} (grid : (f u.time).grid = u.time.grid)
    (later : Timely u → u.time.partTime ≤ (f u.time).partTime)
    (past : u.time.partTime ≤ 4294967295 → (f u.time).partTime ≤ 4294967295)
    (delivery : Timely u → ∀ w, (f u.time).boundary = some w → w.event.time = (f u.time).partTime) :
    Keeps s (u.modTime f) :=
  h.trans
    { onlyInRun := fun hi => ⟨hi.records, hi.captures⟩
      channels := id
      records := fun hi => recordLaw_iff.mpr fun z => by
        have := recordLaw_iff.mp hi z
        rw [State.time_modTime, grid]
        exact this
      table := fun hi => hi.of_slots (fun _ => .refl _) rfl rfl
      timely := fun hi => ⟨past hi.partTime, hi.lists, hi.lawful, captureLaw_iff.mpr
        ⟨delivery hi, fun x => ((captureLaw_iff.mp hi.law).2 x).mono (later hi)⟩⟩
      held := fun _ => id }

/-! ### Flags, findings and entry faults -/

theorem latch (h : Keeps s u) (flag : Byte) : Keeps s (u.latch flag) := h.modAttn _

theorem unlatch (h : Keeps s u) (flags : Byte) : Keeps s (u.unlatch flags) := h.modAttn _

theorem markLost (h : Keeps s u) (x : Subject) : Keeps s (u.markLost x) := by
  cases x with
  | zone z => exact h.modZone z (f := fun x => { x with lost := true }) (.of_same rfl id rfl rfl rfl)
  | meter m => exact h.modMeter m (f := fun x => { x with lost := true }) ⟨.rfl, rfl⟩

theorem offer (h : Keeps s u) (x : Finding) : Keeps s (u.offer x) := by
  unfold State.offer
  dsimp only
  split
  · split
    · exact (h.setFindings _).latch _
    · exact h.setFindings _
  · exact (h.markLost _).latch _

theorem offerAll (h : Keeps s u) (fs : List Finding) : Keeps s (u.offerAll fs) := by
  induction fs generalizing u with
  | nil => exact h
  | cons x fs ih => exact ih (h.offer x)

theorem setMark (h : Keeps s u) (e : Subject) : Keeps s (u.setMark e) := by
  have marked : Keeps s (match e with
      | .zone z => u.modZone z fun x => { x with mark := true }
      | .meter m => u.modMeter m fun x => { x with mark := true }) := by
    cases e with
    | zone z => exact h.modZone z (.of_same rfl (fun _ => rfl) rfl rfl rfl)
    | meter m => exact h.modMeter m ⟨.rfl, rfl⟩
  unfold State.setMark
  dsimp only
  split
  · exact marked.latch _
  · exact marked

theorem outOfService (h : Keeps s u) (e : Subject) : Keeps s (u.outOfService e) := by
  cases e with
  | zone z => exact h.modZone z (.outOfService _)
  | meter m => exact h.modMeter m (.outOfService _)

theorem finishFault (h : Keeps s u) (e : Subject) : Keeps s (u.finishFault e) := (h.outOfService e).offer _

theorem newFault (h : Keeps s u) (e : Subject) : Keeps s (u.newFault e) := by
  unfold State.newFault
  split
  · exact (h.setMark e).modAnalyser _
  · exact (h.setMark e).finishFault e

theorem verify (h : Keeps s u) (e : Subject) : Keeps s (u.verify e) := by
  unfold State.verify
  split
  · exact h
  · exact h.newFault e

theorem verifyAll (h : Keeps s u) (es : List Subject) : Keeps s (u.verifyAll es) := by
  induction es generalizing u with
  | nil => exact h
  | cons e es ih => exact ih (h.verify e)

/-! ### Replies and requests -/

theorem answer (h : Keeps s u) (st : Status) (body : List Byte) : Keeps s (u.answer st body) := by
  rw [State.answer_eq]
  exact h.modLink fun _ => (u.answer st body).link

theorem setWorking (h : Keeps s u) : Keeps s u.setWorking := h.modLink _

theorem takeFrame (h : Keeps s u) : Keeps s u.takeFrame := by
  unfold State.takeFrame
  split
  · dsimp only
    split
    · exact (h.modLink _).answer _ _
    · exact h.modLink _
  · exact h

theorem replySent (h : Keeps s u) : Keeps s u.replySent := by
  unfold State.replySent
  split
  · split
    · exact (h.modLink _).takeFrame
    all_goals exact h
  · exact h

theorem receive (h : Keeps s u) (e : RxEvent) : Keeps s (u.receive e) := by
  unfold State.receive
  split
  · exact h
  · dsimp only
    split
    · exact h.modLink _
    · exact ((h.modLink _).modLink _).takeFrame

/-- A request keeps what its owner's taking of it keeps. -/
theorem request (s : State) (c : Instr) {act : State → State} (hact : ∀ {t}, Keeps t (act t)) : Keeps s (s.request c act) := by
  rcases request_cases s c act with ⟨f, hf⟩ | ⟨f, hf⟩
  · rw [hf]
    exact (refl s).modLink f
  · rw [hf]
    exact ((refl s).modLink f).trans hact

/-! ### Capture lists and gates -/

/-- A record of this second is posted to a counting channel (R43). -/
theorem post (h : Keeps s u) (x : ChanId) {r : Capture} (hr : Timely u → captureTime r = u.time.partTime)
    (kind : ∀ g cg t x, r ≠ .resume g cg t x)
    (hs : (u.channel x).state = .counting ∨ (u.channel x).state = .gatePending) : Keeps s (u.post x r) := by
  unfold State.post
  split
  next run =>
    have posted : Keeps s (u.modChannel x (·.post r)) := h.modChannel x hr (.post rfl kind hs run)
    dsimp only
    split
    · exact posted.latch _
    · exact posted
  next => exact h

end Keeps

end Sys2Proof.Safety

namespace Sys2Proof.Safety

open Sys2Proof Machine

/-- What a posted record does to a channel: nothing outside RUN (R43). -/
theorem channel_post (s : State) (x y : ChanId) (r : Capture) :
    (s.post x r).channel y = if s.mode = .run ∧ y = x then (s.channel x).post r else s.channel y := by
  have posted : (s.modChannel x (·.post r)).channel y = if y = x then (s.channel x).post r else s.channel y :=
    State.channel_modChannel s x y _
  unfold State.post
  by_cases run : s.mode = .run
  · simp only [run, if_true, true_and]
    split
    · exact posted
    · exact posted
  · simp only [run, if_false, false_and]

namespace Keeps

variable {s t u : State}

/-- A move of channels and flags alone. -/
theorem of_onlyCapture (h : Laws.OnlyCapture s t) {now : Nat} (now_eq : Timely s → now = s.time.partTime)
    (channels : ∀ x, ChannelKeeps (s.mode = .run) now (s.channel x) (t.channel x)) : Keeps s t := by
  refine of_parts (by rw [h]; rfl) (by rw [h]) now_eq (fun z => ?_) channels fun hi => hi.of_slots (fun m => ?_) ?_ ?_
  · rw [show t.zone z = s.zone z by rw [h]; rfl]; exact .refl _ _
  · rw [show t.meter m = s.meter m by rw [h]; rfl]; exact .refl _
  · rw [h]
  · rw [h]

/-! ### Gates -/

/-- A gated channel resumes (R42, R44). -/
theorem resume (h : Keeps s u) (x : ChanId) (hs : (u.channel x).state = .gated ∨ (u.channel x).state = .releaseWait) :
    Keeps s (u.resume x) := by
  refine h.trans (of_onlyCapture (Laws.resume_onlyCapture u x) (now := u.now) (fun _ => rfl) fun y => ?_)
  have counts : ChannelKeeps.Counts (u.channel x).state := .inr (.inr hs)
  unfold State.resume
  dsimp only
  split
  next g cg hg =>
    rw [State.channel_modChannel, channel_post, channel_post]
    by_cases hy : y = x
    · subst hy
      by_cases run : u.mode = .run
      · simp only [run, true_and, if_true]
        exact .resume hg hs trivial
      · simp only [run, false_and, if_false, if_true]
        exact .ungate rfl rfl counts rfl rfl
    · simp only [hy, if_false, and_false]
      exact .refl _ _ _
  next =>
    rw [State.channel_modChannel]
    split
    next same => rw [same]; exact .ungate rfl rfl counts rfl rfl
    next => exact .refl _ _ _

theorem sourcesAssert (h : Keeps s u) (x : ChanId) : Keeps s (u.modChannel x (·.sourcesAssert u.now)) := by
  refine h.modChannel x (now := u.now) (fun _ => rfl) ?_
  unfold Channel.sourcesAssert
  split
  next hs =>
    have counts : ChannelKeeps.Counts (u.channel x).state := .inl hs
    split
    · exact .move rfl rfl rfl counts (.inr (.inl rfl)) (by simp [hs])
    · exact .gate counts _
  next hs => exact .move rfl rfl rfl (.inr (.inr (.inr hs))) (.inr (.inr (.inl rfl))) (by simp [hs])
  all_goals exact .refl _ _ _

theorem sourcesClear (h : Keeps s u) (x : ChanId) : Keeps s (u.sourcesClear x) := by
  unfold State.sourcesClear
  split
  next hs => exact h.modChannel x (fun _ => rfl) (.move rfl rfl rfl (.inr (.inl hs)) (.inl rfl) (by simp [hs]))
  next hs =>
    split
    · exact h.modChannel x (fun _ => rfl) (.move rfl rfl rfl (.inr (.inr (.inl hs))) (.inr (.inr (.inr rfl))) (by simp [hs]))
    · exact h.resume x (.inl hs)
  all_goals exact h

theorem gateEdge (h : Keeps s u) (x : ChanId) (before : Bool) : Keeps s (u.gateEdge x before) := by
  unfold State.gateEdge
  split
  · split
    · exact h.sourcesAssert x
    · split
      · exact h.sourcesClear x
      · exact h
  · exact h

theorem gateEdges (h : Keeps s u) (old : State) (cause : ChanId) : Keeps s (u.gateEdges old cause) := by
  unfold State.gateEdges
  generalize (List.finRange 16).filter (· != cause) = xs
  induction xs generalizing u with
  | nil => exact h
  | cons x xs ih => exact ih (h.gateEdge x _)

theorem gatesAfresh (h : Keeps s u) : Keeps s u.gatesAfresh := by
  unfold State.gatesAfresh
  generalize List.finRange 16 = xs
  induction xs generalizing u with
  | nil => exact h
  | cons x xs ih =>
    rw [List.foldl_cons]
    refine ih ?_
    split
    next count =>
      refine h.modChannel x (now := u.now) (fun _ => rfl) ?_
      split
      · exact .afresh rfl count (.inr ⟨rfl, _, rfl⟩)
      · exact .afresh rfl count (.inl ⟨rfl, rfl⟩)
    next => exact h

theorem pulse (h : Keeps s u) (x : ChanId) : Keeps s (u.pulse x) := by
  have counted : Keeps s (u.modChannel x fun c => { c with tally := c.tally + 1, edgeCounted := true }) :=
    h.markChannel x fun _ => ⟨rfl, rfl, rfl, rfl⟩
  have phased : ∀ n : Channel → Nat, Keeps s ((u.modChannel x fun c =>
      { c with tally := c.tally + 1, edgeCounted := true }).modChannel x fun c => { c with phase := n c }) :=
    fun _ => counted.markChannel x fun _ => ⟨rfl, rfl, rfl, rfl⟩
  unfold State.pulse
  dsimp only
  split
  next hs =>
    split
    · exact (phased fun _ => 0).post x (fun _ => rfl) (by simp) (.inl (by simpa using hs))
    · exact phased _
  next hs =>
    split
    · exact (phased fun _ => 0).post x (fun _ => rfl) (by simp) (.inr (by simpa using hs))
    · exact phased _
  all_goals exact counted

/-- A channel's part in the event in delivery: its BOUNDARY record, then the gate that waited for it (R41, R43). -/
theorem channelBoundary (h : Keeps s u) {w : BoundaryWork} (hw : u.time.boundary = some w) (x : ChanId) :
    Keeps s (u.channelBoundary w.event.time x) := by
  have now_eq : Timely u → w.event.time = u.time.partTime := fun ht => ht.law.delivery w hw
  unfold State.channelBoundary
  dsimp only
  split
  next hs => exact h.post x now_eq (by simp) (.inl hs)
  next hs =>
    have posted := h.post x (r := .boundary w.event.time (u.channel x).tally) now_eq (by simp) (.inr hs)
    have same := Laws.post_onlyCapture u x (.boundary w.event.time (u.channel x).tally)
    refine posted.modChannel x (fun ht => ht.law.delivery w (by rw [same]; exact hw)) (.gate (.inr (.inl ?_)) _)
    rw [channel_post]
    split
    · exact hs
    · exact hs
  all_goals exact h

/-! ### Open night records -/

/-- Setting held marks (R93, R137). -/
theorem holdEdges (h : Keeps s u) (old : State) : Keeps s (u.holdEdges old) := by
  refine h.mapZones fun z => ?_
  split
  · refine .mapRecord _ (fun r => ?_) (fun r hr => ?_)
    · split <;> rfl
    · split <;> exact hr
  · exact .refl _ _

/-- A change of open records that keeps nights and numbers of bins. -/
def NightsKept (g : Grid) (f : NightRecord → NightRecord) : Prop :=
  ∀ r, (f r).night = r.night ∧ (r.bins.length = g.binCount → (f r).bins.length = g.binCount)

theorem touchRecord (h : Keeps s u) (t : TakenSlot) {f : Dir → NightRecord → NightRecord}
    (hf : ∀ d, NightsKept u.time.grid (f d)) (p : ZoneId × Dir) : Keeps s (u.touchRecord t f p) := by
  unfold State.touchRecord
  split
  next r hr =>
    have written : Keeps s (u.modZone p.1 fun z => { z with record := some (f p.2 r) }) :=
      h.modZone p.1 (.setRecord hr (hf p.2 r).1 (hf p.2 r).2)
    split
    · dsimp only
      split
      · exact written
      · exact written.modIntake _
    · exact h
  next => exact h

theorem touchRecords (h : Keeps s u) (t : TakenSlot) {f : Dir → NightRecord → NightRecord}
    (hf : ∀ d, NightsKept u.time.grid (f d)) : Keeps s (u.touchRecords t f) := by
  unfold State.touchRecords
  generalize (u.meter t.slot).members = ps
  induction ps generalizing u with
  | nil => exact h
  | cons p ps ih =>
    refine ih (h.touchRecord t hf p) ?_
    have time : (u.touchRecord t f p).time = u.time := by rw [Laws.touchRecord_onlyPoint u t f p]
    show ∀ d, NightsKept (u.touchRecord t f p).time.grid (f d)
    rw [time]
    exact hf

theorem setPoint (h : Keeps s u) (m : SlotId) (p : Point) : Keeps s (u.setPoint m p) := h.modMeter m ⟨.rfl, rfl⟩

theorem coverFirst (h : Keeps s u) (t : TakenSlot) (t1 : Nat) : Keeps s (u.coverFirst t t1) :=
  h.touchRecords t fun _ _ => ⟨rfl, id⟩

theorem coverGap (h : Keeps s u) (t : TakenSlot) (t0 t1 : Nat) : Keeps s (u.coverGap t t0 t1) :=
  h.touchRecords t fun _ _ => ⟨rfl, id⟩

theorem sharesFrom_length (dv span before : Nat) (os : List Nat) : (sharesFrom dv span before os).length = os.length := by
  induction os generalizing before with
  | nil => rfl
  | cons o os ih => simp [sharesFrom, ih]

theorem apportion (h : Keeps s u) (t : TakenSlot) (dv t0 t1 : Nat) : Keeps s (u.apportion t dv t0 t1) := by
  refine h.touchRecords t fun d r => ⟨rfl, fun hr => ?_⟩
  have shares : (if t0 = t1 then u.grid.pointShares r.night dv t1 else u.grid.shares r.night dv t0 t1).length =
      u.grid.binCount := by
    split
    · simp [Grid.pointShares]
    · simp [Grid.shares, sharesFrom_length, Grid.binOverlaps]
  rw [NightRecord.addShares, List.length_zipWith, shares]
  exact Nat.min_eq_right (Nat.le_of_eq hr.symm)

theorem doubtSlot (h : Keeps s u) (m : SlotId) : Keeps s (u.doubtSlot m) := by
  have counted : Keeps s (u.modMeter m fun x => { x with doubt := x.doubt + 1 }) := h.modMeter m ⟨.rfl, rfl⟩
  unfold State.doubtSlot
  dsimp only
  split
  · refine (counted.modMeter m ?_).offer _
    exact (SlotKeeps.become _ (by decide)).trans ⟨.rfl, rfl⟩
  · exact counted

theorem firstReading (h : Keeps s u) (t : TakenSlot) (p : Point) : Keeps s (u.firstReading t p) := by
  refine ((h.coverFirst t _).modMeter t.slot ?_).setPoint t.slot p
  exact (SlotKeeps.become _ (by decide)).trans ⟨.rfl, rfl⟩

theorem livePoint (h : Keeps s u) (t : TakenSlot) (p0 p : Point) : Keeps s (u.livePoint t p0 p).1 := by
  unfold State.livePoint
  dsimp only
  split
  · exact (h.coverGap t _ _).setPoint t.slot p
  · split
    · exact ((h.coverGap t _ _).doubtSlot t.slot).setPoint t.slot p
    · have placed := fun dv => (h.apportion t dv p0.time p.time).setPoint t.slot p
      dsimp only
      split
      · exact (placed _).modMeter t.slot ⟨.rfl, rfl⟩
      · exact placed _

theorem takePoint (h : Keeps s u) (t : TakenSlot) (p : Point) : Keeps s (u.takePoint t p).1 := by
  have first := (h.coverFirst t p.time).setPoint t.slot p
  unfold State.takePoint
  dsimp only
  split
  · exact h
  · exact h
  · exact h.firstReading t p
  · exact first
  · exact first
  · split
    · exact first
    · exact h.livePoint t _ p
  · split
    · exact first
    · exact (h.coverGap t _ _).setPoint t.slot p

theorem resumeGap (h : Keeps s u) (t : TakenSlot) (g r : Nat) (cr : W32) : Keeps s (u.resumeGap t g r cr) :=
  Keeps.setPoint (h.touchRecords t (f := fun _ n => n.modMember t.slot (u.grid.coverResume n.night g r))
    fun _ _ => ⟨rfl, id⟩) t.slot _

theorem handleRecord (h : Keeps s u) (t : TakenSlot) (r : Capture) : Keeps s (u.handleRecord t r) := by
  cases r with
  | pulse t1 c => exact h.takePoint _ _
  | boundary t1 c => exact h.takePoint _ _
  | resume g cg t1 c => exact (h.takePoint t _).resumeGap t _ _ _

/-! ### Commits -/

/-- The application of a commit whose table obeys the law of R19 (R30, R31). -/
theorem applyCommit (h : Keeps s u) (ok : TableInv u → TableOk u.resulting) : Keeps s u.applyCommit := by
  have only := Laws.applyCommit_onlyCommit u
  have ctl : u.applyCommit.ctl = u.ctl := by rw [only]
  have time : u.applyCommit.time = u.time := by rw [only]
  have channels : u.applyCommit.channels = u.channels := by rw [only]
  refine h.trans (of_parts (congrArg ModeControl.mode ctl) time (now := u.time.partTime) (fun _ => rfl) (fun z => ?_)
    (fun x => ?_) fun hi => hi.applyCommit (ok hi))
  · have zone : u.applyCommit.zone z = (u.writeBindings.followMembers u).zone z := by
      simp only [State.applyCommit, State.zone_modStage]
    rw [zone, State.followMembers, State.zone_mapZones, Proofs.zone_congr (Proofs.zones_writeBindings u)]
    split
    · refine .mapRecord _ (fun r => ?_) (fun r hr => ?_)
      · unfold State.updatedRecord; split <;> rfl
      · unfold State.updatedRecord; split <;> exact hr
    · exact .refl _ _
  · rw [show u.applyCommit.channel x = u.channel x by simp only [State.channel, channels]]
    exact .refl _ _ _

/-- The commit in the stage, once it is pending (R29, R30). -/
theorem applyPending (h : Keeps s u) (pending : u.stage.commitPending = true) : Keeps s u.applyCommit :=
  h.applyCommit fun hi => hi.law.committed pending

theorem stageBoundary (h : Keeps s u) : Keeps s u.stageBoundary := by
  unfold State.stageBoundary
  split
  next pending =>
    split
    · exact h.applyPending pending
    · exact h.trans (of_parts rfl rfl (now := u.time.partTime) (fun _ => rfl) (fun _ => .refl _ _) (fun _ => .refl _ _ _)
        fun hi => hi.of_slots (fun _ => .refl _) rfl rfl)
  next => exact h

theorem testZones (h : Keeps s u) (m : SlotId) (zs : List ZoneId) : Keeps s (u.testZones m zs).1 := by
  induction zs generalizing u with
  | nil => exact h
  | cons z zs ih =>
    simp only [State.testZones]
    split
    · exact ih (h.verify _)
    · exact h.verify _

theorem testPending (h : Keeps s u) (p : PendingBinding) : Keeps s (u.testPending p).1 := by
  unfold State.testPending
  split
  · exact h
  · dsimp only
    split
    · exact h.testZones _ _
    · exact (h.testZones _ _).verifyAll _

theorem validate (h : Keeps s u) (ps : List PendingBinding) : Keeps s (u.validate ps).1 := by
  induction ps generalizing u with
  | nil => exact h
  | cons p ps ih =>
    simp only [State.validate]
    split
    · exact h.testPending p
    · exact ih (h.testPending p)

/-! ### Boundary events -/

/-- The work of the event in delivery is written, the event staying the same. -/
theorem setBoundary (h : Keeps s u) {w : BoundaryWork} (hw : u.time.boundary = some w) (w' : BoundaryWork)
    (event : w'.event = w.event) :
    Keeps s (u.setBoundary w') :=
  h.modTime rfl (fun _ => Nat.le_refl _) id fun ht v hv => by
    cases hv
    rw [event]
    exact ht.law.delivery w hw

theorem analyserBoundary (h : Keeps s u) (mark : Option GridMark) : Keeps s (u.analyserBoundary mark) := by
  unfold State.analyserBoundary
  split
  · exact h
  next gm =>
    refine h.mapZones fun z => .mapRecord _ (fun r => ?_) (fun r hr => ?_)
    · unfold GridMark.onRecord; split <;> split <;> rfl
    · unfold GridMark.onRecord; split <;> split <;> exact hr

theorem scrubVerify (h : Keeps s u) {w : BoundaryWork} (hw : u.time.boundary = some w) : Keeps s (u.scrubVerify w) := by
  unfold State.scrubVerify
  split
  · exact h
  · split
    · exact h.setBoundary hw _ rfl
    · have set := h.setBoundary hw { w with verifies := w.verifies - 1 } rfl
      dsimp only
      split
      · exact (set.verify _).modChecker _
      · exact set.verify _

theorem boundaryPart (h : Keeps s u) (p : BoundaryPart) : Keeps s (u.boundaryPart p) := by
  unfold State.boundaryPart
  split
  · exact h
  next w hw =>
    cases p with
    | channel c =>
      dsimp only
      split
      · exact (h.setBoundary hw { w with channels := w.channels.erase c } rfl).channelBoundary rfl c
      · exact h
    | stage =>
      dsimp only
      split
      · exact (h.setBoundary hw { w with stage := false } rfl).stageBoundary
      · exact h
    | analyser =>
      dsimp only
      split
      · exact (h.setBoundary hw { w with analyser := false } rfl).analyserBoundary _
      · exact h
    | verify => exact h.scrubVerify hw

theorem boundaryParts (h : Keeps s u) (order : List BoundaryPart) : Keeps s (u.boundaryParts order) := by
  unfold State.boundaryParts
  induction order generalizing u with
  | nil => exact h
  | cons p ps ih => exact ih (h.boundaryPart p)

theorem trim_grid (t : TimeBase) : t.trim.grid = t.grid := by
  unfold TimeBase.trim
  dsimp only
  split
  · rfl
  · split <;> rfl

/-- The trim step never takes part time back, nor past time end (R2, R11). -/
theorem trim_partTime {t : TimeBase} (h : t.partTime ≤ 4294967295) :
    t.partTime ≤ t.trim.partTime ∧ t.trim.partTime ≤ 4294967295 := by
  unfold TimeBase.trim Config.timeEnd
  dsimp only
  split
  · dsimp only; omega
  · split <;> exact ⟨Nat.le_refl _, h⟩

theorem settle (h : Keeps s u) : Keeps s u.settle := by
  unfold State.settle
  split
  · exact h
  · exact (h.boundaryParts allParts).modTime (trim_grid _) (fun ht => (trim_partTime ht.partTime).1)
      (fun hp => (trim_partTime hp).2) (fun _ => nofun)

theorem tick_grid (t : TimeBase) : t.tick.grid = t.grid ∧ t.tick.boundary = t.boundary := by
  unfold TimeBase.tick
  split
  · exact ⟨rfl, rfl⟩
  · split <;> exact ⟨rfl, rfl⟩

theorem tick_partTime {t : TimeBase} :
    t.partTime ≤ t.tick.partTime ∧ (t.partTime ≤ 4294967295 → t.tick.partTime ≤ 4294967295) := by
  unfold TimeBase.tick Config.timeEnd
  split
  · exact ⟨Nat.le_refl _, id⟩
  · split
    · exact ⟨Nat.le_succ _, fun _ => by dsimp only; omega⟩
    · exact ⟨Nat.le_refl _, id⟩

/-- A tick with no event in delivery; the event it may raise is of the new second (R1, R3). -/
theorem tick (h : Keeps s u) (hb : u.time.boundary = none) : Keeps s u.tick := by
  have raised : ∀ t : TimeBase, t.boundary = none → ∀ w,
      (if t.advances && t.grid.isBoundary t.tick.partTime then
        { t.tick with boundary := some (t.grid.eventAt t.tick.partTime).begin } else t.tick).boundary = some w →
      w.event.time = t.tick.partTime := by
    intro t ht w hw
    split at hw
    · cases hw
      rfl
    · rw [(tick_grid t).2, ht] at hw
      cases hw
  refine h.modTime ?_ (fun _ => ?_) (fun hp => ?_) fun _ w hw => ?_
  · dsimp only
    split <;> exact (tick_grid _).1
  · dsimp only
    split <;> exact tick_partTime.1
  · dsimp only
    split <;> exact tick_partTime.2 hp
  · rw [raised _ hb w hw]
    dsimp only
    split <;> rfl

theorem secondTick (h : Keeps s u) (order : List BoundaryPart) (share : SecondShare) : Keeps s (u.secondTick order share) := by
  have begun := h.settle.tick (Laws.settle_boundary u)
  cases share with
  | whole => exact (begun.boundaryParts order).settle
  | start => exact begun.boundaryParts order
  | more => exact h.boundaryParts order
  | rest => exact (h.boundaryParts order).settle

theorem standstillEnd (h : Keeps s u) : Keeps s (u.settle.modTime TimeBase.tick) :=
  h.settle.modTime (tick_grid _).1 (fun _ => tick_partTime.1) tick_partTime.2 fun _ w hw => by
    rw [(tick_grid _).2, Laws.settle_boundary] at hw
    cases hw

end Keeps

end Sys2Proof.Safety

/-! ## The laws of the block through every command -/

namespace Sys2Proof.Safety

open Sys2Proof Machine

/-! ### Verifications and bindings -/

/-- Every slot keeps its binding, and is bound when it was. -/
def SlotsKept (s t : State) : Prop := ∀ m, SlotKeeps (s.meter m) (t.meter m)

namespace SlotsKept

variable {s t u : State}

theorem refl (s : State) : SlotsKept s s := fun _ => .refl _

theorem modMeter (h : SlotsKept s u) (m : SlotId) {f : MeterSlot → MeterSlot} (hf : SlotKeeps (u.meter m) (f (u.meter m))) :
    SlotsKept s (u.modMeter m f) := fun k => by
  refine (h k).trans ?_
  rw [State.meter_modMeter]
  split
  next same => rw [same]; exact hf
  next => exact .refl _

theorem offer (h : SlotsKept s u) (x : Finding) : SlotsKept s (u.offer x) := by
  unfold State.offer
  dsimp only
  split
  · split <;> exact h
  · cases x.subject with
    | zone z => exact h
    | meter m => exact h.modMeter m (f := fun x => { x with lost := true }) ⟨.rfl, rfl⟩

theorem verify (h : SlotsKept s u) (e : Subject) : SlotsKept s (u.verify e) := by
  have marked : SlotsKept s (u.setMark e) := by
    unfold State.setMark
    cases e with
    | zone z => dsimp only; split <;> exact h
    | meter m =>
      have marked := h.modMeter m (f := fun x => { x with mark := true }) ⟨.rfl, rfl⟩
      dsimp only
      split <;> exact marked
  have finished : SlotsKept s ((u.setMark e).outOfService e) := by
    cases e with
    | zone z => exact marked
    | meter m => exact marked.modMeter m (.outOfService _)
  unfold State.verify State.newFault
  split
  · exact h
  · split
    · exact marked
    · exact finished.offer _

theorem verifyAll (h : SlotsKept s u) (es : List Subject) : SlotsKept s (u.verifyAll es) := by
  induction es generalizing u with
  | nil => exact h
  | cons e es ih => exact ih (h.verify e)

theorem testZones (h : SlotsKept s u) (m : SlotId) (zs : List ZoneId) : SlotsKept s (u.testZones m zs).1 := by
  induction zs generalizing u with
  | nil => exact h
  | cons z zs ih =>
    simp only [State.testZones]
    split
    · exact ih (h.verify _)
    · exact h.verify _

theorem testPending (h : SlotsKept s u) (p : PendingBinding) : SlotsKept s (u.testPending p).1 := by
  unfold State.testPending
  split
  · exact h
  · dsimp only
    split
    · exact h.testZones _ _
    · exact (h.testZones _ _).verifyAll _

theorem validate (h : SlotsKept s u) (ps : List PendingBinding) : SlotsKept s (u.validate ps).1 := by
  induction ps generalizing u with
  | nil => exact h
  | cons p ps ih =>
    simp only [State.validate]
    split
    · exact h.testPending p
    · exact ih (h.testPending p)

end SlotsKept

/-- A pending binding that fits goes on fitting through verifications. -/
theorem Fits.of_onlyFault {s t : State} {p : PendingBinding} (h : Fits s p) (only : Laws.OnlyFault s t) (slots : SlotsKept s t) :
    Fits t p := by
  have stage : t.stage = s.stage := by rw [only]
  have channels : t.channels = s.channels := by rw [only]
  exact h.congr (resulting_congr slots (by rw [stage])) fun x => by simp only [State.channel, channels]

/-- When a validation passes, each pending binding passes its tests 2 to 4 (R27). -/
theorem fits_of_validate {s : State} {ps : List PendingBinding} (h : (s.validate ps).2 = none) :
    ∀ p ∈ ps, p.binding.source ≠ 0 → Fits (s.validate ps).1 p := by
  induction ps generalizing s with
  | nil => nofun
  | cons p ps ih =>
    simp only [State.validate] at h ⊢
    split at h
    · cases h
    next passed =>
      have first : p.binding.source ≠ 0 → Fits (s.testPending p).1 p := fun source => by
        unfold State.testPending at passed ⊢
        rw [if_neg source] at passed ⊢
        dsimp only at passed ⊢
        split at passed
        · cases passed
        · exact (tests_eq_none_iff _ p).mp passed
      intro q hq source
      rcases List.mem_cons.mp hq with rfl | hq
      · exact (first source).of_onlyFault (Laws.validate_onlyFault _ ps) ((SlotsKept.refl _).validate ps)
      · exact ih h q hq source

/-- A validation that passes leaves a resulting table that obeys the law of R19. -/
theorem tableOk_of_validate {s : State} (h : (s.validate s.stage.bindings).2 = none)
    (law : MeterTableLaw (s.validate s.stage.bindings).1) : TableOk (s.validate s.stage.bindings).1.resulting := by
  have stage : (s.validate s.stage.bindings).1.stage = s.stage := by rw [Laws.validate_onlyFault s s.stage.bindings]
  exact tableOk_resulting law (by rw [stage]; exact fits_of_validate h)

/-! ### Zones written by a request -/

/-- A zone in service moves among the conditions of service, and its records stay (R123, R140). -/
theorem ZoneLaw.reconsider {running : Prop} {g : Grid} {x y : Zone} (h : ZoneLaw running g x) (entry : y.entry = x.entry)
    (mark : y.mark = x.mark) (record : y.record = x.record) (lastClose : y.lastClose = x.lastClose)
    (before : x.inService = true) (after : y.kept ≠ .unconfigured ∧ y.kept ≠ .fault) : ZoneLaw running g y := by
  have filled : ¬(y.mark = false ∧ y.entry.configured = 0) := fun ⟨hm, hc⟩ => by
    have := x.condition_eq_unconfigured (mark ▸ hm) (entry ▸ hc)
    simp [Zone.inService, this] at before
  have service : y.inService = true := by
    rcases condition_cases y with ⟨blank, -⟩ | ⟨-, hk⟩
    · exact absurd blank filled
    · simpa [Zone.inService, hk] using after
  refine ⟨fun hm hc => absurd ⟨hm, hc⟩ filled, fun hs => ?_, fun hr _ => ?_⟩
  · rw [service] at hs
    cases hs
  · unfold NightOpen
    rw [record, lastClose]
    exact h.inService hr before

theorem configure_entry (z : Zone) (x : ZoneSettings) :
    (z.configure x).entry = { configured := 1, settings := x } ∧ (z.configure x).mark = false ∧
      (z.configure x).record = z.record := by
  unfold Zone.configure
  dsimp only
  split <;> exact ⟨rfl, rfl, rfl⟩

theorem condition_configure (z : Zone) (x : ZoneSettings) : (z.configure x).condition = (z.configure x).kept := by
  obtain ⟨entry, -, -⟩ := configure_entry z x
  exact Zone.condition_eq_kept _ (.inr (by simp [entry]))

/-- A condition of service is the condition kept. -/
theorem kept_of_condition {z : Zone} (h : z.condition ≠ .unconfigured) : z.kept = z.condition := by
  rcases condition_cases z with ⟨-, hu⟩ | ⟨-, hk⟩
  · exact absurd hu h
  · exact hk.symm

/-- A zone that SET-ZONE has written is in service (R21). -/
theorem configure_inService (z : Zone) (x : ZoneSettings) : (z.configure x).inService = true := by
  have service : (z.configure x).kept ≠ .unconfigured ∧ (z.configure x).kept ≠ .fault := by
    unfold Zone.configure
    dsimp only
    split
    · simp
    · dsimp only; split <;> simp
    · dsimp only; split <;> simp
    all_goals
      next hc =>
        have := kept_of_condition (z := z) (by rw [hc]; decide)
        simp [this, hc]
  simpa [Zone.inService, condition_configure] using service

/-- SET-ZONE's write leaves CONFIRMED (R21, R135). -/
theorem configure_confirmed {z : Zone} (x : ZoneSettings) (h : z.condition = .confirmed) :
    (z.configure x).condition = .confirmed := by
  rw [condition_configure]
  unfold Zone.configure
  simp only [h]
  rw [kept_of_condition (by rw [h]; decide), h]

theorem ZoneLaw.configure {g : Grid} (z : Zone) (x : ZoneSettings) : ZoneLaw False g (z.configure x) := by
  obtain ⟨entry, -, -⟩ := configure_entry z x
  refine ⟨fun _ hc => ?_, fun hs => ?_, nofun⟩
  · simp [entry] at hc
  · rw [configure_inService] at hs
    cases hs

theorem ZoneLaw.reset {running : Prop} {g : Grid} : ZoneLaw running g resetZone :=
  ⟨fun _ _ => rfl, fun _ => rfl, fun _ hs => by cases hs⟩

/-- One zone written, its law holding after it. -/
theorem LawsKept.putZone {u : State} (z : ZoneId) {x : Zone}
    (law : ZoneLaw (u.mode = .run) u.time.grid (u.zone z) → ZoneLaw (u.mode = .run) u.time.grid x)
    (noRecord : (u.zone z).record = none → x.record = none) : LawsKept u (u.putZone z x) where
  onlyInRun h := ⟨fun hm y => by
    rw [State.zone_putZone]
    split
    · exact noRecord (h.records hm z)
    · exact h.records hm y, h.captures⟩
  channels := id
  records h := recordLaw_iff.mpr fun y => by
    rw [State.zone_putZone]
    split
    · exact law (recordLaw_iff.mp h z)
    · exact recordLaw_iff.mp h y
  table h := h.of_slots (fun _ => .refl _) rfl rfl
  timely h := ⟨h.partTime, h.lists, h.lawful, { h.law with }⟩

namespace Keeps

variable {s t u : State}

/-! ### Nights -/

theorem record_offer (s : State) (x : Finding) (z : ZoneId) : ((s.offer x).zone z).record = (s.zone z).record := by
  unfold State.offer
  dsimp only
  split
  · split <;> rfl
  · cases x.subject with
    | meter m => rfl
    | zone y =>
      show ((s.modZone y fun z => { z with lost := true }).zone z).record = _
      rw [State.zone_modZone]
      split
      next same => rw [same]
      next => rfl

theorem record_offerAll (s : State) (fs : List Finding) (z : ZoneId) : ((s.offerAll fs).zone z).record = (s.zone z).record := by
  induction fs generalizing s with
  | nil => rfl
  | cons x fs ih => exact (ih _).trans (record_offer s x z)

/-- A night's outcome leaves the open records (R127). -/
theorem record_handOutcome (s : State) (zid : ZoneId) (x : ZoneSettings) (night : Nat) (cls : NightClass) (z : ZoneId) :
    ((s.handOutcome zid x night cls).zone z).record = (s.zone z).record := by
  unfold State.handOutcome
  dsimp only
  rw [record_offerAll, State.zone_putZone]
  split
  next same => rw [same]; exact (ZoneKeeps.worked_work (s.zone zid) x zid night cls).record
  next => rfl

theorem handOutcome (h : Keeps s u) (zid : ZoneId) (x : ZoneSettings) (night : Nat) (cls : NightClass) :
    Keeps s (u.handOutcome zid x night cls) :=
  (h.putZone zid (ZoneKeeps.worked_work _ x zid night cls).keeps).offerAll _

theorem earlyClose (h : Keeps s u) (z : ZoneId) : Keeps s (u.earlyClose z) := by
  refine h.modZone z (.mapRecord _ (fun r => ?_) (fun r hr => ?_))
  · split <;> rfl
  · split <;> exact hr

theorem closeNight (h : Keeps s u) (a : Analysis) {r : NightRecord} (hr : (u.zone a.zone).record = some r) :
    Keeps s (u.closeNight a r) := by
  have handed := h.handOutcome a.zone a.settings r.night (u.judge a r)
  have open_ := (record_handOutcome u a.zone a.settings r.night (u.judge a r) a.zone).trans hr
  unfold State.closeNight State.writeClose
  dsimp only
  generalize u.handOutcome a.zone a.settings r.night (u.judge a r) = v at handed open_ ⊢
  refine handed.trans (of_parts rfl rfl (now := v.now) (fun _ => rfl) (fun z => ?_) (fun _ => .refl _ _ _)
    fun hi => hi.of_slots (fun _ => .refl _) rfl rfl)
  rw [State.zone_modZone, State.zone_modZone, State.zone_modZone]
  split
  next same =>
    rw [same, if_pos rfl]
    refine .nextRecord open_ rfl ?_
    unfold State.recordFor
    split
    next on => exact .inl ⟨_, rfl, of_decide_eq_true on, List.length_replicate⟩
    next off => exact .inr ⟨rfl, Nat.lt_of_not_le fun le => off (decide_eq_true le)⟩
  next => exact .refl _ _

theorem freeAnalyser (h : Keeps s u) (zid : ZoneId) : Keeps s (u.freeAnalyser zid) := ((h.modAnalyser _).latch _).modCtl rfl

theorem analysisEnd (h : Keeps s u) : Keeps s u.analysisEnd := by
  unfold State.analysisEnd
  split
  · exact h
  next a _ =>
    split
    · exact h.modAnalyser _
    next r hr =>
      have ended := (h.closeNight a hr).freeAnalyser a.zone
      dsimp only
      split
      · exact ended.finishFault _
      · exact ended

theorem takeZone (h : Keeps s u) (zid : ZoneId) : Keeps s (u.takeZone zid) := by
  have seen := (h.modAnalyser fun a => { a with raced := [] }).verify (.zone zid)
  unfold State.takeZone
  dsimp only
  split
  · exact seen.outOfService _
  · exact seen.modAnalyser _

theorem endRecord (h : Keeps s u) (zid : ZoneId) : Keeps s (u.endRecord zid) := by
  unfold State.endRecord
  split
  next r hr =>
    split
    · refine (h.handOutcome zid _ _ _).modZone zid (.writeClose ?_ _)
      rw [record_handOutcome, hr]
      simp
    · exact h
  next => exact h

/-! ### Pins, levels and channel requests -/

theorem pinChange (h : Keeps s u) (x : ChanId) (high : Bool) (micros : Nat) : Keeps s (u.pinChange x high micros) := by
  have moved : Keeps s (u.modChannel x fun c => { c with pinHigh := high }) := h.markChannel x fun _ => ⟨rfl, rfl, rfl, rfl⟩
  unfold State.pinChange
  dsimp only
  split
  · exact h
  · split
    · exact moved
    · split
      · exact moved.pulse x
      · exact moved
    · exact moved.markChannel x fun _ => ⟨rfl, rfl, rfl, rfl⟩

theorem statusLevelChange (h : Keeps s u) (x : ChanId) : Keeps s (u.statusLevelChange x) := by
  unfold State.statusLevelChange
  dsimp only
  split
  · have moved : Keeps s (u.modChannel x fun c => { c with asserted := !c.pinHigh, conditioning := false }) :=
      h.markChannel x fun _ => ⟨rfl, rfl, rfl, rfl⟩
    exact (moved.gateEdges u x).holdEdges u
  · exact h

/-- A channel that leaves COUNT mode, or never was in it, after SET-CHANNEL (R49). -/
theorem configure_keeps (c : Channel) {mode : ChanMode} (hm : mode ≠ .count) (divider : Nat) (gateLine : Option ChanId)
    (timing restart : Bool) {running : Prop} {now : Nat} :
    ChannelKeeps running now c (c.configure mode divider gateLine timing restart) := by
  cases mode with
  | off => exact .of_gate rfl (.inr (.inl rfl)) fun _ => ⟨by simp [Channel.configure], by simp [Channel.configure],
      by simp [Channel.configure]⟩
  | status =>
    unfold Channel.configure
    dsimp only
    split
    next was =>
      refine .of_gate rfl (.inl rfl) fun h => ⟨by simp, by simp, ?_⟩
      have none_ := h.gateRecord
      rw [h.status.mp was] at none_
      simpa using none_
    next => exact .of_gate rfl (.inr (.inl rfl)) fun _ => ⟨by simp, by simp, by simp⟩
  | count => exact absurd rfl hm

theorem setChannel (h : Keeps s u) (ch mode divider gateLine timing restartMode : Byte) :
    Keeps s (u.setChannel ch mode divider gateLine timing restartMode) := by
  unfold State.setChannel
  split
  · split
    · exact h.answer _ _
    next x _ =>
      split
      · exact h.answer _ _
      · refine ((Keeps.gateEdges ?_ u x).holdEdges u).answer _ _
        split
        next count =>
          have configured := fun c : Channel => Bounds.configure_list c (chanModeOf mode) divider.toNat (chanOf gateLine)
            (timing = 1) (restartMode = 1)
          refine h.trans (of_onlyCapture rfl (now := u.now) (fun _ => rfl) fun y => ?_)
          unfold State.gateAfresh
          rw [State.channel_modChannel, State.channel_modChannel, State.channel_modChannel]
          split
          next same =>
            subst same
            have counts : ((u.channel y).configure (chanModeOf mode) divider.toNat (chanOf gateLine) (timing = 1)
                (restartMode = 1)).mode = .count := by
              rw [count]
              unfold Channel.configure
              dsimp only
              split <;> rfl
            simp only [if_true]
            split
            · exact .afresh (configured _) counts (.inr ⟨rfl, _, rfl⟩)
            · exact .afresh (configured _) counts (.inl ⟨rfl, rfl⟩)
          next => exact .refl _ _ _
        next other => exact h.modChannel x (now := u.now) (fun _ => rfl) (configure_keeps _ other _ _ _ _)
  · exact h.answer _ _

theorem channelGet (h : Keeps s u) (ch : Byte) : Keeps s (u.channelGet ch) := by
  unfold State.channelGet
  split
  · exact h.answer _ _
  next x _ =>
    have cleared : Keeps s (u.modChannel x fun c => { c with overflow := false }) := h.markChannel x fun _ => ⟨rfl, rfl, rfl, rfl⟩
    exact cleared.answer _ _

theorem gateSet (h : Keeps s u) (x : ChanId) : Keeps s (u.gateSet x) := by
  have set : Keeps s (u.modChannel x fun c => { c with softGate := true }) := h.markChannel x fun _ => ⟨rfl, rfl, rfl, rfl⟩
  exact set.gateEdge x _

theorem gateRelease (h : Keeps s u) (x : ChanId) : Keeps s (u.gateRelease x) := by
  have cleared : Keeps s (u.modChannel x fun c => { c with softGate := false }) := h.markChannel x fun _ => ⟨rfl, rfl, rfl, rfl⟩
  have state : ((u.modChannel x fun c => { c with softGate := false }).channel x).state = (u.channel x).state := by simp
  unfold State.gateRelease
  dsimp only
  split
  next hs =>
    rw [hs] at state
    exact cleared.modChannel x (fun _ => rfl) (.move rfl rfl rfl (.inr (.inl state)) (.inl rfl) (by simp [hs]))
  next hs => exact cleared.resume x (.inl (state.trans hs))
  next hs => exact cleared.resume x (.inr (state.trans hs))
  all_goals exact cleared

theorem gateChannel (h : Keeps s u) (ch action : Byte) : Keeps s (u.gateChannel ch action) := by
  unfold State.gateChannel
  split
  · exact h.answer _ _
  · split
    · exact h.answer _ _
    next x _ =>
      split
      · exact h.answer _ _
      · split
        · exact h.answer _ _
        · split
          · exact (h.gateSet x).answer _ _
          · split
            · exact h.answer _ _
            · exact (h.gateRelease x).answer _ _

/-! ### Modes -/

/-- The entry to RUN: each zone in service opens the record of the first night on the grid (R91, R163). -/
theorem enterRun (h : Keeps s u) (hm : u.mode = .starting) : Keeps s u.enterRun := by
  unfold State.enterRun
  dsimp only
  split
  next on =>
    have opened : Keeps u ((u.mapZones fun z x => if x.inService then
        { x with record := some (u.newRecord z (u.grid.firstNight u.now)) } else x).modCtl fun c => { c with mode := .run }) :=
      { onlyInRun := fun _ => ⟨fun hr => absurd rfl hr, fun hr => absurd rfl hr⟩
        channels := fun hi x => by rw [State.channel_modCtl, State.channel_mapZones]; exact hi x
        records := fun hi => recordLaw_iff.mpr fun z => by
          have law := recordLaw_iff.mp hi z
          rw [State.zone_modCtl, State.zone_mapZones, State.time_modCtl, State.time_mapZones]
          split
          next service =>
            refine ⟨law.agrees, fun hs => ?_, fun _ _ => .inl ⟨_, rfl, of_decide_eq_true on, List.length_replicate⟩⟩
            exact absurd (service.symm.trans hs) (by decide)
          next out => exact ⟨law.agrees, law.outOfService, fun _ hs => absurd hs out⟩
        table := fun hi => hi.of_slots (fun m => by rw [State.meter_modCtl, State.meter_mapZones]; exact .refl _)
          (by rw [State.stage_modCtl, State.stage_mapZones]) (by rw [State.stage_modCtl, State.stage_mapZones])
        timely := fun hi => by
          refine ⟨hi.partTime, fun hr => absurd rfl hr, fun x => ?_, captureLaw_iff.mpr ⟨hi.law.delivery, fun x => ?_⟩⟩
          · rw [State.channel_modCtl, State.channel_mapZones]; exact hi.lawful x
          · rw [State.channel_modCtl, State.channel_mapZones]; exact (captureLaw_iff.mp hi.law).2 x
        held := fun z hz => by
          rw [State.zone_modCtl, State.zone_mapZones]
          split <;> exact hz }
    exact ((h.trans opened).unlatch _).latch _
  next => exact h.modCtl_outside (by rw [hm]; decide) (show Mode.setup ≠ .run by decide)

theorem passVerify (h : Keeps s u) (p : CheckPass) : Keeps s (u.passVerify p) := by
  have seen := h.verify (entryOf p.next)
  have mode : (u.verify (entryOf p.next)).mode = u.mode := by rw [Laws.verify_onlyFault u (entryOf p.next)]; rfl
  unfold State.passVerify
  dsimp only
  split
  · split
    · split
      next hm => exact (seen.modChecker _).enterRun (mode.trans hm)
      next => exact seen.modChecker _
    · exact seen.modChecker _
  · exact seen.modChecker _

/-- The work of the block is over: outside RUN, every record gone, every list empty, every zone calm (R146, R160, R164). -/
theorem close (mode : t.mode ≠ .run) (partTime : t.time.partTime = s.time.partTime) (boundary : t.time.boundary = s.time.boundary)
    (zones : ∀ z, t.zone z = { (s.zone z).calm with record := none })
    (channels : ∀ x, (t.channel x).list = [] ∧ (t.channel x).mode = (s.channel x).mode ∧
      (t.channel x).state = (s.channel x).state ∧ (t.channel x).gateRecord = (s.channel x).gateRecord)
    (table : TableInv s → TableInv t) : Keeps s t := by
  have law : ∀ x, ChannelLaw (s.channel x) → ChannelLaw (t.channel x) := fun x ⟨off, status, gate⟩ => by
    obtain ⟨-, hm, hs, hg⟩ := channels x
    exact ⟨by rw [hm, hs]; exact off, by rw [hm, hs]; exact status, by rw [hg, hs]; exact gate⟩
  refine ⟨⟨fun _ => ⟨fun _ z => by rw [zones], fun _ x => (channels x).1⟩, fun h x => law x (h x), fun h => ?_, table, fun h => ?_⟩,
    fun z hz => ?_⟩
  · refine recordLaw_iff.mpr fun z => ?_
    have calm := (ZoneKeeps.worked_calm (s.zone z)).keeps.law _ (recordLaw_iff.mp h z)
    rw [zones]
    exact ⟨calm.agrees, fun _ => rfl, fun hr => absurd hr mode⟩
  · refine ⟨partTime ▸ h.partTime, fun _ x => (channels x).1, fun x => law x (h.lawful x),
      captureLaw_iff.mpr ⟨by rw [partTime, boundary]; exact h.law.delivery, fun x => ⟨?_, fun g cg hg => ?_⟩⟩⟩
    · rw [(channels x).1]
      exact .nil _
    · rw [(channels x).2.2.2] at hg
      rw [(channels x).1, partTime]
      exact ⟨(h.law.gates x g cg hg).1, nofun⟩
  · rw [zones]
    exact (ZoneKeeps.worked_calm (s.zone z)).keeps (g := s.time.grid) |>.held hz

theorem toSetup (h : Keeps s u) : Keeps s u.toSetup := by
  refine h.trans (close (show Mode.setup ≠ .run by decide) rfl rfl (fun z => ?_) (fun x => ?_) fun hi => hi.of_slots (fun m => ?_) rfl rfl)
  · simp only [State.toSetup, State.emptyLists, State.zone_modCtl, State.zone_modAnalyser, State.zone_modChecker,
      State.zone_mapChannels, State.zone_mapZones]
  · simp only [State.toSetup, State.emptyLists, State.channel_modCtl, State.channel_modAnalyser, State.channel_modChecker,
      State.channel_mapChannels, State.channel_mapZones, and_self]
  · simp only [State.toSetup, State.emptyLists, State.meter_modCtl, State.meter_modAnalyser, State.meter_modChecker,
      State.meter_mapChannels, State.meter_mapZones]
    exact .refl _

theorem leave (h : Keeps s u) (l : Leaving) : Keeps s (u.leave l) := by
  have ended : ∀ zs : List ZoneId, Keeps s (zs.foldl State.endRecord u) := by
    intro zs
    induction zs generalizing u with
    | nil => exact h
    | cons z zs ih => exact ih (h.endRecord z)
  unfold State.leave
  exact (ended _).toSetup.answer _ _

theorem restart (h : Keeps s u) : Keeps s u.restart := by
  have ended : Keeps s u.endStarting := by
    unfold State.endStarting
    split
    next hm => exact (h.modChecker _).modCtl_outside (show u.mode ≠ .run by rw [hm]; decide) (show Mode.setup ≠ .run by decide)
    next => exact h
  exact ended.setWorking.modCtl rfl

theorem slotKeeps_restart (m : MeterSlot) : SlotKeeps m m.restart := by
  unfold MeterSlot.restart
  split
  next hs => exact ⟨by grind, rfl⟩
  next => exact .refl m

theorem restartClear (h : Keeps s u) : Keeps s u.restartClear := by
  unfold State.restartClear
  refine gatesAfresh (h.trans (close (show Mode.setup ≠ .run by decide) rfl rfl (fun z => ?_) (fun x => ?_)
    fun hi => (hi.emptied).of_slots (fun m => ?_) rfl rfl))
  · simp only [State.zone_mapChannels, State.zone_mapMeters, State.zone_mapZones]
    rfl
  · simp only [State.channel_mapChannels, State.channel_mapMeters, State.channel_mapZones]
    exact ⟨rfl, rfl, rfl, rfl⟩
  · simp only [State.meter_mapChannels, State.meter_mapMeters, State.meter_mapZones]
    exact slotKeeps_restart _

/-! ### Stage and meter requests -/

/-- A change of the stage. -/
theorem modStage (h : Keeps s u) {f : Stage → Stage} (table : TableInv u → TableInv (u.modStage f)) : Keeps s (u.modStage f) :=
  h.trans (of_parts rfl rfl (now := u.now) (fun _ => rfl) (fun _ => .refl _ _) (fun _ => .refl _ _ _) table)

theorem stageMeter (h : Keeps s u) (slot : Byte) (b : MeterBinding) : Keeps s (u.stageMeter slot b) := by
  unfold State.stageMeter
  split
  · exact h.answer _ _
  · split
    · exact h.answer _ _
    next unlocked =>
      split
      · exact h.answer _ _
      · split
        · exact h.answer _ _
        next ok =>
          split
          · exact h.answer _ _
          · exact (h.modStage fun hi => hi.write (by simpa using unlocked) ok).answer _ _

/-- A commit that has passed its validation (R28). -/
theorem acceptCommit (h : Keeps s u) (ok : MeterTableLaw u → TableOk u.resulting) : Keeps s u.acceptCommit := by
  unfold State.acceptCommit
  dsimp only
  split
  · exact (h.applyCommit fun hi => ok hi.law).answer _ _
  · refine Keeps.answer (h.modStage (f := fun g => { g with commitPending := true })
      fun hi => ⟨hi.slots, hi.law.table, hi.law.staged, fun _ => ?_⟩) _ _
    exact ok hi.law

theorem commitStage (h : Keeps s u) : Keeps s u.commitStage := by
  unfold State.commitStage
  split
  · exact h.answer _ _
  · split
    · exact h.answer _ _
    · split
      · exact h.answer _ _
      · dsimp only
        split
        · exact (h.validate _).answer _ _
        next passed => exact (h.validate _).acceptCommit (tableOk_of_validate passed)

theorem discardStage (h : Keeps s u) : Keeps s u.discardStage := by
  unfold State.discardStage
  split
  · exact h.answer _ _
  · split
    · exact h.answer _ _
    · exact (h.modStage fun hi => hi.emptied).answer _ _

theorem meterGet (h : Keeps s u) (slot : Byte) : Keeps s (u.meterGet slot) := by
  unfold State.meterGet
  split
  · exact h.answer _ _
  · exact (h.modMeter _ ⟨.rfl, rfl⟩).answer _ _

theorem releaseMeter (h : Keeps s u) (m : SlotId) : Keeps s (u.releaseMeter m) := by
  unfold State.releaseMeter
  split
  next hs => exact (h.modMeter m ⟨by simp [hs], rfl⟩).answer _ _
  next => exact h.answer _ _

theorem meterRelease (h : Keeps s u) (slot : Byte) : Keeps s (u.meterRelease slot) := by
  unfold State.meterRelease
  split
  · exact h.answer _ _
  · split
    · exact h.answer _ _
    · split
      · exact h.setWorking.modIntake _
      · exact h.releaseMeter _

/-! ### The intake -/

theorem startReading (h : Keeps s u) (slot : Byte) (tag : W32) (batch : Bool) (pairs : List Pair) :
    Keeps s (u.startReading slot tag batch pairs) := by
  have tested : Keeps s (u.requestTests slot tag batch pairs.length).1 := by
    unfold State.requestTests
    split
    · exact h
    · split
      · exact h
      · split
        · exact h
        · split
          · exact h
          · exact h.verify _
  unfold State.startReading
  exact tested.setWorking.modIntake _

theorem offerReading (h : Keeps s u) (slot : Byte) (tag : W32) (batch : Bool) (pairs : List Pair) :
    Keeps s (u.offerReading slot tag batch pairs) := by
  unfold State.offerReading
  split
  · exact h.startReading _ _ _ _
  · split
    · exact h.startReading _ _ _ _
    · exact h
  all_goals exact h

theorem readPair (h : Keeps s u) (j : ReadingJob) (p : Pair) (rest : List Pair) : Keeps s (u.readPair j p rest) := by
  unfold State.readPair State.setJob
  split
  · exact h.modIntake _
  next m _ =>
    have taken : Keeps s (u.takePair m p).1 := by
      unfold State.takePair
      split
      · exact h
      · exact h.takePoint _ _
    split
    · exact h.modIntake _
    · split
      · exact h.modIntake _
      · exact taken.modIntake _

theorem readingPair (h : Keeps s u) : Keeps s u.readingPair := by
  unfold State.readingPair
  split
  · split
    · exact h.readPair _ _ _
    · exact h.modIntake _
    · exact h
  all_goals exact h

theorem findClaimant (h : Keeps s u) (ms : List SlotId) : Keeps s (u.findClaimant ms).1 := by
  induction ms generalizing u with
  | nil => exact h
  | cons m ms ih =>
    simp only [State.findClaimant]
    split
    · exact ih (h.verify _)
    · exact h.verify _

theorem takeRecord (h : Keeps s u) (x : ChanId) (r : Capture) : Keeps s (u.takeRecord x r) := by
  have left : Keeps s (u.modChannel x fun c => { c with list := c.list.tail }) :=
    h.modChannel x (now := u.now) (fun _ => rfl) (.shorten (List.tail_sublist _) rfl rfl rfl)
  unfold State.takeRecord
  exact (left.findClaimant _).modIntake _

theorem serveChosen (h : Keeps s u) (x : ChanId) (resume : Bool) : Keeps s (u.serveChosen x resume) := by
  unfold State.serveChosen
  split
  next slot _ =>
    split
    · cases slot with
      | none => exact h.modIntake fun i => { i with hand := .served x none }
      | some t => exact (h.handleRecord t _).modIntake fun i => { i with hand := .served x (some t.slot) }
    · exact h
  all_goals exact h

theorem captureItem (h : Keeps s u) (x : ChanId) (resume : Bool) : Keeps s (u.captureItem x resume) := by
  unfold State.captureItem
  split
  · split
    · split
      · exact (h.takeRecord x _).serveChosen x resume
      · exact h
    · exact h
  · exact h.serveChosen x resume
  all_goals exact h

theorem earlyCloses (h : Keeps s u) : Keeps s u.earlyCloses := by
  have tested : ∀ zs : List ZoneId, Keeps s (zs.foldl State.earlyClose u) := by
    intro zs
    induction zs generalizing u with
    | nil => exact h
    | cons z zs ih => exact ih (h.earlyClose z)
  unfold State.earlyCloses
  dsimp only
  split
  · exact (tested _).modAnalyser _
  · exact tested _

theorem dueCommit (h : Keeps s u) : Keeps s u.dueCommit := by
  unfold State.dueCommit
  split
  next due =>
    obtain ⟨pending, -⟩ := Bool.and_eq_true_iff.mp due
    exact (h.modCtl rfl).applyPending pending
  next => exact h

theorem dueRelease (h : Keeps s u) : Keeps s u.dueRelease := by
  unfold State.dueRelease
  split
  · exact (h.modIntake _).releaseMeter _
  · exact h

theorem itemEndParts (h : Keeps s u) (parts : List ItemEndPart) : Keeps s (parts.foldl State.itemEndPart u) := by
  induction parts generalizing u with
  | nil => exact h
  | cons p parts ih =>
    cases p with
    | earlyClose => exact ih h.earlyCloses
    | commit => exact ih h.dueCommit
    | release => exact ih h.dueRelease

theorem takeNext (h : Keeps s u) : Keeps s u.takeNext := by
  have idle := h.modIntake fun i => { i with hand := .idle, touched := [] }
  unfold State.takeNext
  dsimp only
  split
  · split
    · exact idle
    · split
      · split
        · exact idle.takeRecord _ _
        · exact idle
      · exact idle.modIntake _
  · exact idle

theorem itemEnd (h : Keeps s u) (order : List ItemEndPart) : Keeps s (u.itemEnd order) := by
  unfold State.itemEnd
  split
  · exact (h.itemEndParts _).takeNext
  next j _ =>
    have replied : Keeps s (u.replyReading j) := by
      unfold State.replyReading
      split
      · exact h
      · exact h.answer _ _
      · exact h.answer _ _
    split
    · exact (replied.itemEndParts _).takeNext
    · exact h
  all_goals exact h

theorem enterSetup (h : Keeps s u) : Keeps s u.enterSetup := by
  unfold State.enterSetup
  split
  · exact h.answer _ _
  · exact h.toSetup.answer _ _
  · have leaving : Keeps s (u.setWorking.modCtl fun c => { c with leaving := some { applied := 0, analysed := [] } }) :=
      h.setWorking.modCtl rfl
    unfold State.beginLeaving
    dsimp only
    split
    · exact leaving.dueCommit
    · exact leaving

theorem leaveSetup (h : Keeps s u) : Keeps s u.leaveSetup := by
  unfold State.leaveSetup
  split
  next hm =>
    split
    · exact h.answer _ _
    · exact ((h.modChecker _).modCtl_outside (show u.mode ≠ .run by rw [hm]; decide)
        (show Mode.starting ≠ .run by decide)).answer _ _
  next => exact h.answer _ _

/-! ### Zone, night, pressure and time requests -/

theorem holdZone (h : Keeps s u) (zone action : Byte) : Keeps s (u.holdZone zone action) := by
  unfold State.holdZone
  split
  · exact h.answer _ _
  · split
    · exact h.answer _ _
    · split
      · exact h.answer _ _
      · split
        · exact h.answer _ _
        · exact ((h.modZone _ (.of_same rfl id rfl rfl rfl)).holdEdges u).answer _ _

theorem zoneGet (h : Keeps s u) (zone : Byte) : Keeps s (u.zoneGet zone) := by
  unfold State.zoneGet
  split
  · exact h.answer _ _
  · exact (h.modZone _ (.of_same rfl id rfl rfl rfl)).answer _ _

/-- BASELINE-PUT is refused for a zone in FAULT or CONFIRMED (R123). -/
theorem baselinePut (h : Keeps s u) (zone : Byte) (b sp : W32) (n : Byte) : Keeps s (u.baselinePut zone b sp n) := by
  unfold State.baselinePut
  split
  · split
    · exact h.answer _ _
    next zid _ =>
      dsimp only
      split
      · exact h.answer _ _
      next configured =>
        split
        · exact h.answer _ _
        next free =>
          have unheld : ¬Held (u.zone zid) := by simpa [Held, and_comm, not_or, or_comm] using free
          have service : (u.zone zid).inService = true := by
            rw [← Bool.not_eq_false, inService_eq_false_iff]
            exact not_or.mpr ⟨configured, fun hf => unheld (.inr hf)⟩
          split
          · exact h.answer _ _
          · refine (h.putZone zid (x := (u.zone zid).putBaseline b sp n)
              ⟨fun running law => ?_, id, fun held => absurd held unheld⟩).answer _ _
            refine law.reconsider rfl rfl rfl rfl service ?_
            unfold Zone.putBaseline
            dsimp only
            split <;> simp
  · exact h.answer _ _

theorem addSample (h : Keeps s u) {zid : ZoneId} {r : NightRecord} (hr : (u.zone zid).record = some r) (k : Nat) (v : W16) :
    Keeps s (u.addSample zid r k v) := by
  unfold State.addSample
  dsimp only
  split
  · exact (h.modZone zid (.setRecord hr (r' := { r with bins := r.bins.modify k (·.addSample (saturatePressure v)) }) rfl
      fun hb => (List.length_modify ..).trans hb)).answer _ _
  · exact h.answer _ _

theorem pressure (h : Keeps s u) (zone : Byte) (t : W32) (v : W16) : Keeps s (u.pressure zone t v) := by
  unfold State.pressure
  split
  · exact h.answer _ _
  · split
    · exact h.answer _ _
    · split
      · exact h.answer _ _
      · split
        · exact h.answer _ _
        · split
          · exact h.answer _ _
          · unfold State.placeSample
            split
            · split
              · exact h.answer _ _
              · exact h.answer _ _
            next r hr =>
              split
              · split
                · exact h.addSample hr _ v
                · exact h.answer _ _
              · split
                · exact h.answer _ _
                · exact h.answer _ _

theorem writeTable (h : Keeps s u) (entries : Vector W16 17) : Keeps s (u.writeTable entries) := by
  unfold State.writeTable
  split
  · exact (h.setTable entries).answer _ _
  · exact h.answer _ _

theorem findingsTake (h : Keeps s u) (n : Byte) : Keeps s (u.findingsTake n) := by
  unfold State.findingsTake
  split
  · exact (h.setFindings _).answer _ _
  · exact h.answer _ _

/-- The clock set in SETUP, where every list is empty: gate records are dated now (R9, R44). -/
theorem setClock (h : Keeps s u) (t : W32) : Keeps s (u.setClock t) := by
  unfold State.setClock
  split
  next hm =>
    have mode : u.settle.mode = .setup := by
      unfold State.settle
      split
      · exact hm
      · rw [← hm, State.mode_modTime, Laws.boundaryParts_onlyBoundary u allParts]
        rfl
    have none_ := Laws.settle_boundary u
    have settled := h.settle
    generalize u.settle = v at mode none_ settled ⊢
    refine (settled.trans (u := (v.modTime (·.set t.toNat)).mapChannels fun _ c => c.redate t.toNat) ?_).answer _ _
    have out : v.mode ≠ .run := by rw [mode]; decide
    have law : ∀ c : Channel, ChannelLaw c → ChannelLaw (c.redate t.toNat) := fun c ⟨off, status, gate⟩ =>
      ⟨off, status, by simpa [Channel.redate] using gate⟩
    refine ⟨⟨fun hi => ⟨hi.records, fun _ x => ?_⟩, fun hi x => ?_, fun hi => ?_, fun hi => ?_, fun hi => ?_⟩, fun z => ?_⟩
    · rw [State.channel_mapChannels]
      exact hi.captures out x
    · rw [State.channel_mapChannels]
      exact law _ (hi x)
    · exact ⟨hi.agrees, hi.outOfService, fun hr => absurd hr out⟩
    · exact hi.of_slots (fun _ => .refl _) rfl rfl
    · refine ⟨Nat.le_of_lt_succ t.isLt, fun _ x => ?_, fun x => ?_, captureLaw_iff.mpr ⟨fun w hw => ?_, fun x => ?_⟩⟩
      · rw [State.channel_mapChannels]
        exact hi.lists out x
      · rw [State.channel_mapChannels]
        exact law _ (hi.lawful x)
      · exact absurd (none_.symm.trans hw) (by simp)
      · have empty : ((v.channel x).redate t.toNat).list = [] := hi.lists out x
        rw [State.channel_mapChannels]
        refine ⟨by rw [State.channel_modTime, empty]; exact .nil _, fun g cg hg => ?_⟩
        obtain ⟨_, -, same⟩ := Option.map_eq_some_iff.mp hg
        cases same
        rw [State.channel_modTime, empty]
        exact ⟨Nat.le_refl _, nofun⟩
    · exact id
  next => exact h.answer _ _

/-- The grid set in SETUP, where no night record is open (R8). -/
theorem setGrid (h : Keeps s u) (f : GridFields) : Keeps s (u.setGrid f) := by
  unfold State.setGrid
  split
  next hm =>
    split
    · exact h.answer _ _
    · refine (h.trans (u := u.modTime fun b => { b with grid := gridOf f }) ?_).answer _ _
      have out : u.mode ≠ .run := by rw [hm]; decide
      exact ⟨⟨fun hi => ⟨hi.records, hi.captures⟩, id, fun hi => ⟨hi.agrees, hi.outOfService, fun hr => absurd hr out⟩,
        fun hi => hi.of_slots (fun _ => .refl _) rfl rfl, fun hi => ⟨hi.partTime, hi.lists, hi.lawful, { hi.law with }⟩⟩,
        fun _ => id⟩
  next => exact h.answer _ _

theorem timeMark (h : Keeps s u) (reference : W32) : Keeps s (u.timeMark reference) := by
  unfold State.timeMark
  split
  · dsimp only
    split
    · exact (h.latch _).answer _ _
    · exact (h.modTime rfl (fun _ => Nat.le_refl _) id fun ht => ht.law.delivery).answer _ _
  · exact h.answer _ _

end Keeps

end Sys2Proof.Safety

/-! ### Requests that only read -/

namespace Sys2Proof.Machine.State

open Sys2Proof

variable (s : State)

theorem nightBins_answers (zid : ZoneId) (first : Nat) (body : NightRecord → List Byte) :
    ∃ st bytes, s.nightBins zid first body = s.answer st bytes := by
  unfold State.nightBins
  split
  · exact ⟨_, _, rfl⟩
  · split <;> exact ⟨_, _, rfl⟩

theorem nightGet_answers (zone part firstBin : Byte) : ∃ st bytes, s.nightGet zone part firstBin = s.answer st bytes := by
  unfold State.nightGet
  split
  · exact ⟨_, _, rfl⟩
  · split
    · exact ⟨_, _, rfl⟩
    · split
      · exact ⟨_, _, rfl⟩
      · split
        · exact ⟨_, _, rfl⟩
        · split <;> exact s.nightBins_answers _ _ _

theorem historyGet_answers (zone : Byte) : ∃ st bytes, s.historyGet zone = s.answer st bytes := by
  unfold State.historyGet
  split
  · exact ⟨_, _, rfl⟩
  · split <;> exact ⟨_, _, rfl⟩

theorem baselineGet_answers (zone : Byte) : ∃ st bytes, s.baselineGet zone = s.answer st bytes := by
  unfold State.baselineGet
  split
  · exact ⟨_, _, rfl⟩
  · split <;> exact ⟨_, _, rfl⟩

theorem entryRaw_answers (kind number : Byte) : ∃ st bytes, s.entryRaw kind number = s.answer st bytes := by
  unfold State.entryRaw
  split
  · split <;> exact ⟨_, _, rfl⟩
  · split
    · split <;> exact ⟨_, _, rfl⟩
    · exact ⟨_, _, rfl⟩

end Sys2Proof.Machine.State

/-! ## Every step keeps the laws (O59) -/

namespace Sys2Proof.Safety

open Sys2Proof Machine

/-- What a command keeps, from s to t: the laws, and CONFIRMED but for an entry fault and the commands of R135. -/
structure StepKeeps (c : Instr) (s t : State) : Prop extends LawsKept s t where
  confirmed : ∀ z, (s.zone z).condition = .confirmed →
    (t.zone z).condition = .confirmed ∨ (t.zone z).condition = .fault ∨ leavesConfirmed c = true

variable {s t u : State}

theorem Keeps.step (h : Keeps s t) (c : Instr) : StepKeeps c s t :=
  ⟨h.toLawsKept, fun z hz => (h.held z (.inl hz)).imp_right .inl⟩

theorem LawsKept.step (h : LawsKept s t) {c : Instr} (leaves : leavesConfirmed c = true) : StepKeeps c s t :=
  ⟨h, fun _ _ => .inr (.inr leaves)⟩

/-- What leads the way by moves that keep CONFIRMED. -/
theorem StepKeeps.after {c : Instr} (h : Keeps s u) (same : u.zones = s.zones) (h' : StepKeeps c u t) : StepKeeps c s t :=
  ⟨h.toLawsKept.trans h'.toLawsKept, fun z hz => h'.confirmed z (by rwa [Proofs.zone_congr same])⟩

/-- A request keeps what its owner's taking of it keeps. -/
theorem StepKeeps.request (s : State) (c d : Instr) {act : State → State} (hact : ∀ t, StepKeeps c t (act t)) :
    StepKeeps c s (s.request d act) := by
  rcases request_cases s d act with ⟨f, hf⟩ | ⟨f, hf⟩
  · rw [hf]
    exact ((Keeps.refl s).modLink f).step c
  · rw [hf]
    exact .after ((Keeps.refl s).modLink f) rfl (hact _)

/-- SET-ZONE's write keeps CONFIRMED (R21). -/
theorem stepKeeps_writeZone (c : Instr) (u : State) (hm : u.mode = .setup) (zid : ZoneId) (x : ZoneSettings) :
    StepKeeps c u (u.writeZone zid x) := by
  unfold State.writeZone
  split
  · exact ((Keeps.refl u).answer _ _).step c
  · have out : ¬u.mode = .run := by rw [hm]; decide
    have written : LawsKept u (u.modZone zid (·.configure x)) :=
      .putZone zid (fun _ => by rw [eq_false out]; exact .configure _ x) fun hr => by rw [(configure_entry _ x).2.2, hr]
    have rest := fun st body => ((Keeps.refl (u.modZone zid (·.configure x))).holdEdges u).answer st body
    refine ⟨written.trans (rest _ _).toLawsKept, fun z hz => ?_⟩
    refine ((rest _ _).held z (.inl ?_)).imp_right .inl
    rw [State.zone_modZone]
    split
    next same => subst same; exact configure_confirmed x hz
    next => exact hz

theorem lawsKept_unconfigureZone (u : State) (zid : ZoneId) : LawsKept u (u.unconfigureZone zid) := by
  unfold State.unconfigureZone
  split
  · exact ((Keeps.refl u).answer _ _).toLawsKept
  · dsimp only
    split
    · exact ((Keeps.refl u).answer _ _).toLawsKept
    · exact (LawsKept.putZone zid (fun _ => .reset) fun _ => rfl).trans ((Keeps.refl _).answer _ _).toLawsKept

/-- SET-ZONE: the unconfigure option may end CONFIRMED, the write option does not (R21, R22, R135). -/
theorem stepKeeps_setZone {c : Instr} (u : State) (zone option : Byte) (x : ZoneSettings)
    (leaves : option = 1 → leavesConfirmed c = true) : StepKeeps c u (u.setZone zone option x) := by
  have refused := fun st item => ((Keeps.refl u).answer st (itemDetail item)).step c
  unfold State.setZone
  split
  next hm =>
    split
    · exact refused _ _
    · split
      · exact stepKeeps_writeZone c u hm _ x
      · split
        next unconfigure => exact (lawsKept_unconfigureZone u _).step (leaves unconfigure)
        next => exact refused _ _
  next => exact refused _ _

/-- CLEAR-ZONE is taken for a zone in service, and leaves it in service (R139, R140). -/
theorem lawsKept_clearZone (u : State) (zone option : Byte) : LawsKept u (u.clearZone zone option) := by
  have answered := fun st body => ((Keeps.refl u).answer st body).toLawsKept
  unfold State.clearZone
  split
  · exact answered _ _
  · split
    · exact answered _ _
    next zid _ =>
      dsimp only
      split
      · exact answered _ _
      · split
        · exact answered _ _
        next service =>
          have service : (u.zone zid).inService = true := by simpa using service
          split
          · exact answered _ _
          · split
            · exact answered _ _
            · refine (LawsKept.putZone zid (x := (u.zone zid).cleared option ((u.zone zid).newestCorrected.getD 0))
                (fun law => ?_) fun hr => ?_).trans ((Keeps.refl _).answer _ _).toLawsKept
              · unfold Zone.cleared
                dsimp only
                split
                · exact law.reconsider rfl rfl rfl rfl service (by simp)
                · split
                  · exact law.reconsider rfl rfl rfl rfl service (by simp)
                  · refine law.reconsider rfl rfl rfl rfl service ?_
                    dsimp only
                    split <;> simp
              · unfold Zone.cleared
                dsimp only
                split
                · exact hr
                · split <;> exact hr

/-- Each object after power-on: that of the reset state, but for the pin's level (R166). -/
theorem channel_powerUp (s : State) (rate1 rate0 resetLow : Bool) (x : ChanId) :
    (s.powerUp rate1 rate0 resetLow).channel x = { resetChannel with pinHigh := (s.channel x).pinHigh } := by
  simp only [State.powerUp, State.channel, Vector.getElem_ofFn]

theorem zone_powerUp (s : State) (rate1 rate0 resetLow : Bool) (z : ZoneId) :
    (s.powerUp rate1 rate0 resetLow).zone z = resetZone := by
  simp only [State.powerUp, State.zone, State.reset, Vector.getElem_replicate]

theorem meter_powerUp (s : State) (rate1 rate0 resetLow : Bool) (m : SlotId) :
    (s.powerUp rate1 rate0 resetLow).meter m = resetMeter := by
  simp only [State.powerUp, State.meter, State.reset, Vector.getElem_replicate]

theorem channelsLawful_powerUp (s : State) (rate1 rate0 resetLow : Bool) : ChannelsLawful (s.powerUp rate1 rate0 resetLow) :=
  fun x => by
    rw [channel_powerUp]
    constructor <;> simp [resetChannel]

theorem meterTableLaw_powerUp (s : State) (rate1 rate0 resetLow : Bool) : MeterTableLaw (s.powerUp rate1 rate0 resetLow) := by
  have unbound : tableOf (s.powerUp rate1 rate0 resetLow) = fun _ => none := by
    funext m
    simp [tableOf, meter_powerUp, resetMeter]
  exact ⟨by rw [unbound]; exact Proofs.tableOk_none, nofun, nofun⟩

theorem captureLaw_powerUp (s : State) (rate1 rate0 resetLow : Bool) : CaptureLaw (s.powerUp rate1 rate0 resetLow) := by
  refine captureLaw_iff.mpr ⟨nofun, fun x => ?_⟩
  rw [channel_powerUp]
  exact ⟨.nil _, nofun⟩

/-- Power-on and pin reset leave the laws of the reset state (R166). -/
theorem lawsKept_powerUp (s : State) (rate1 rate0 resetLow : Bool) : LawsKept s (s.powerUp rate1 rate0 resetLow) where
  onlyInRun _ := ⟨fun _ z => by rw [zone_powerUp]; rfl, fun _ x => by rw [channel_powerUp]; rfl⟩
  channels _ := channelsLawful_powerUp s rate1 rate0 resetLow
  records _ := recordLaw_iff.mpr fun z => by rw [zone_powerUp]; exact .reset
  table _ := ⟨List.nodup_nil, meterTableLaw_powerUp s rate1 rate0 resetLow⟩
  timely _ := ⟨Nat.zero_le _, fun _ x => by rw [channel_powerUp]; rfl, channelsLawful_powerUp s rate1 rate0 resetLow,
    captureLaw_powerUp s rate1 rate0 resetLow⟩

/-- Every command answers a next state, and keeps the laws. -/
theorem exec_keeps (s : State) (c : Instr) : ∃ t, exec c s = .next t ∧ StepKeeps c s t := by
  have now := Keeps.refl s
  have ordinary : ∀ {t : State}, exec c s = .next t → Keeps s t → ∃ t, exec c s = .next t ∧ StepKeeps c s t :=
    fun ht h => ⟨_, ht, h.step c⟩
  have request : ∀ {act : State → State}, exec c s = .next (s.request c act) → (∀ {t}, Keeps t (act t)) →
      ∃ t, exec c s = .next t ∧ StepKeeps c s t := fun ht h => ordinary ht (.request s c h)
  have answers : ∀ {act : State → State}, exec c s = .next (s.request c act) → (∀ t, ∃ st body, act t = t.answer st body) →
      ∃ t, exec c s = .next t ∧ StepKeeps c s t := fun ht h => request ht fun {t} => by
    obtain ⟨st, body, same⟩ := h t
    rw [same]
    exact (Keeps.refl t).answer st body
  cases c with
  | secondTick order share => exact ordinary rfl (now.secondTick order share)
  | standstillEnd =>
    refine ordinary rfl ?_
    split
    · exact now.standstillEnd
    · exact now
  | pinChange ch high micros => exact ordinary rfl (now.pinChange ch high micros)
  | statusLevelChange ch => exact ordinary rfl (now.statusLevelChange ch)
  | byteReceived e => exact ordinary rfl (now.receive e)
  | frameGapTimeout => exact ordinary rfl (now.modLink _)
  | replySent => exact ordinary rfl now.replySent
  | unknownKind ft kind body => exact request rfl fun {t} => (Keeps.refl t).answer _ _
  | powerOn rate1 rate0 => exact ⟨_, rfl, (lawsKept_powerUp s _ _ _).step rfl⟩
  | pinReset rate1 rate0 => exact ⟨_, rfl, (lawsKept_powerUp s _ _ _).step rfl⟩
  | statusGet ft => exact request rfl fun {t} => (Keeps.refl t).answer _ _
  | enterSetup ft => exact request rfl fun {t} => (Keeps.refl t).enterSetup
  | leavingPhaseEnd =>
    refine ordinary rfl ?_
    split
    · split
      · exact now.leave _
      · exact now
    · exact now
  | leaveSetup ft => exact request rfl fun {t} => (Keeps.refl t).leaveSetup
  | restart ft => exact request rfl fun {t} => (Keeps.refl t).restart
  | restartClear =>
    refine ordinary rfl ?_
    split
    · exact (now.restartClear.modAttn _).answer _ _
    · exact now
  | setClock ft time => exact request rfl fun {t} => (Keeps.refl t).setClock time
  | setGrid ft grid => exact request rfl fun {t} => (Keeps.refl t).setGrid grid
  | timeMark ft reference => exact request rfl fun {t} => (Keeps.refl t).timeMark reference
  | setZone ft zone option x =>
    exact ⟨_, rfl, .request s _ _ fun t => stepKeeps_setZone t zone option x fun h => by simp [leavesConfirmed, h]⟩
  | setZoneUnconfigure ft zone x => exact ⟨_, rfl, .request s _ _ fun t => stepKeeps_setZone t zone 1 x fun _ => rfl⟩
  | zoneGet ft zone => exact request rfl fun {t} => (Keeps.refl t).zoneGet zone
  | nightGetSummary ft zone part firstBin => exact answers rfl fun t => t.nightGet_answers zone part firstBin
  | nightGetVolumes ft zone firstBin => exact answers rfl fun t => t.nightGet_answers zone 1 firstBin
  | nightGetPressure ft zone firstBin => exact answers rfl fun t => t.nightGet_answers zone 2 firstBin
  | historyGet ft zone => exact answers rfl fun t => t.historyGet_answers zone
  | holdZoneSet ft zone action => exact request rfl fun {t} => (Keeps.refl t).holdZone zone action
  | holdZoneRelease ft zone => exact request rfl fun {t} => (Keeps.refl t).holdZone zone 1
  | clearZoneRelearn ft zone option => exact ⟨_, rfl, .request s _ _ fun t => (lawsKept_clearZone t zone option).step rfl⟩
  | clearZoneRebase ft zone => exact ⟨_, rfl, .request s _ _ fun t => (lawsKept_clearZone t zone 1).step rfl⟩
  | clearZoneKeep ft zone => exact ⟨_, rfl, .request s _ _ fun t => (lawsKept_clearZone t zone 2).step rfl⟩
  | baselineGet ft zone => exact answers rfl fun t => t.baselineGet_answers zone
  | baselinePut ft zone b sp n => exact request rfl fun {t} => (Keeps.refl t).baselinePut zone b sp n
  | stageMeter ft slot b => exact request rfl fun {t} => (Keeps.refl t).stageMeter slot b
  | commitStage ft => exact request rfl fun {t} => (Keeps.refl t).commitStage
  | discardStage ft => exact request rfl fun {t} => (Keeps.refl t).discardStage
  | meterGet ft slot => exact request rfl fun {t} => (Keeps.refl t).meterGet slot
  | meterRelease ft slot => exact request rfl fun {t} => (Keeps.refl t).meterRelease slot
  | setChannel ft ch mode divider gateLine timing restartMode =>
    exact request rfl fun {t} => (Keeps.refl t).setChannel ch mode divider gateLine timing restartMode
  | channelGet ft ch => exact request rfl fun {t} => (Keeps.refl t).channelGet ch
  | gateChannelSet ft ch action => exact request rfl fun {t} => (Keeps.refl t).gateChannel ch action
  | gateChannelRelease ft ch => exact request rfl fun {t} => (Keeps.refl t).gateChannel ch 1
  | reading ft slot tag pair => exact request rfl fun {t} => (Keeps.refl t).offerReading slot tag false [pair]
  | readingBatch ft slot tag pairs => exact request rfl fun {t} => (Keeps.refl t).offerReading slot tag true pairs
  | readingPair => exact ordinary rfl now.readingPair
  | captureRecord ch => exact ordinary rfl (now.captureItem ch false)
  | resumeRecord ch => exact ordinary rfl (now.captureItem ch true)
  | intakeItemEnd order => exact ordinary rfl (now.itemEnd order)
  | pressure ft zone time value => exact request rfl fun {t} => (Keeps.refl t).pressure zone time value
  | setPressureTable ft entries => exact request rfl fun {t} => (Keeps.refl t).writeTable entries
  | pressureTableQuery ft => exact request rfl fun {t} => (Keeps.refl t).answer _ _
  | analyserTakeZone pick =>
    refine ordinary rfl ?_
    split
    · exact now
    · split
      · exact now
      · exact now.takeZone _
  | nightAnalysisEnd => exact ordinary rfl now.analysisEnd
  | findingsTake ft n => exact request rfl fun {t} => (Keeps.refl t).findingsTake n
  | attnGet ft => exact request rfl fun {t} => (Keeps.refl t).answer _ _
  | attnClear ft flags => exact request rfl fun {t} => (((Keeps.refl t).unlatch flags).latch _).answer _ _
  | attnEnable ft mask => exact request rfl fun {t} => ((Keeps.refl t).modAttn _).answer _ _
  | entryRaw ft kind number => exact answers rfl fun t => t.entryRaw_answers kind number
  | checkPass ft =>
    refine request rfl fun {t} => ?_
    unfold State.checkPass
    split
    · exact (Keeps.refl t).answer _ _
    · exact ((Keeps.refl t).modChecker _).answer _ _
  | checkPassVerify =>
    refine ordinary rfl ?_
    split
    · exact now
    · exact now.passVerify _
  | resetPinLow => exact ordinary rfl (now.modLink _)

/-- A step is a command, or the settling of the event in delivery. -/
theorem step_keeps (h : step s = .next t) :
    LawsKept s t ∧ ∀ z, (s.zone z).condition = .confirmed → (t.zone z).condition = .confirmed ∨
      (t.zone z).condition = .fault ∨ ∃ c rest, s.pending = c :: rest ∧ leavesConfirmed c = true := by
  unfold step at h
  split at h
  · cases h
    have settled := (Keeps.refl s).settle
    exact ⟨settled.toLawsKept, fun z hz => (settled.held z (.inl hz)).imp_right .inl⟩
  next c rest hp =>
    obtain ⟨v, hv, kept⟩ := exec_keeps { s with pending := rest } c
    rw [hv] at h
    cases h
    have all := kept.after (Keeps.setPending s rest) rfl
    exact ⟨all.toLawsKept, fun z hz => (all.confirmed z hz).imp_right (Or.imp_right fun leaves => ⟨c, rest, hp, leaves⟩)⟩

/-- Settles O59: each command keeps the laws (`exec_keeps`), which are told apart object by object. -/
theorem everyStepKeepsModeAndChannelLaws : Obligations.EveryStepKeepsModeAndChannelLaws := by
  refine ⟨fun s t h hs => (step_keeps hs).1.onlyInRun h, fun s t h hs => (step_keeps hs).1.channels h,
    fun s t h hs => (step_keeps hs).1.records h, fun s t hb h hs => ((step_keeps hs).1.table ⟨hb.stageSlots, h⟩).law,
    fun s t hb only lawful h hs => ?_, fun s t z hz hs => (step_keeps hs).2 z hz⟩
  exact ((step_keeps hs).1.timely ⟨hb.partTime, only.captures, lawful, h⟩).law

end Sys2Proof.Safety

/-! ## Requests to one object, and their replies -/

namespace Sys2Proof.Proofs

open Sys2Proof Machine Safety

/-! ### The numbers of objects -/

theorem zoneOf_eq_some {b : Byte} {z : ZoneId} (h : b.toNat = z.val) : zoneOf b = some z := by
  simp [zoneOf, h]

theorem zoneOf_eq_none {b : Byte} (h : 47 < b.toNat) : zoneOf b = none := dif_neg (by omega)

theorem slotOf_eq_some {b : Byte} {m : SlotId} (h : b.toNat = m.val) : slotOf b = some m := by
  simp [slotOf, h]

theorem slotOf_eq_none {b : Byte} (h : 127 < b.toNat) : slotOf b = none := dif_neg (by omega)

theorem chanOf_eq_none {b : Byte} (h : 15 < b.toNat) : chanOf b = none := dif_neg (by omega)

/-! ### The answer to a free request -/

section

variable {c : Instr} {f : Frame} {s t u : State} {st : Status}

/-- A free request that its owner answers, after changes that the request in hand does not show in. -/
theorem exec_answers {body : List Byte} (taken : exec c s = .next u) (pin : t.link.resetLow = false)
    (h : u = (t.inHand f).answer st body) : exec c s = .next (replied t f st body) := by
  rw [taken, h, State.answer_inHand (s := t) st body rfl pin]
  rfl

/-- A free request that its owner refuses. -/
theorem exec_refuses {item : Nat} (taken : exec c s = .next u) (pin : t.link.resetLow = false)
    (h : u = (t.inHand f).refuse st item) : exec c s = .next (replied t f st (itemOnly (BitVec.ofNat 8 item))) :=
  exec_answers taken pin h

end

/-! ## Reads that clear a mark -/

/-- Settles O49: by whether the number names an object. -/
theorem readsClearTheMarkTheyReport : Obligations.ReadsClearTheMarkTheyReport := by
  refine ⟨fun ft zone s f hf free => ?_, fun ft slot s f hf free => ?_, fun ft ch s f hf free => ?_⟩
  · have taken := exec_of_free (fun t => t.zoneGet zone) rfl hf free
    refine ⟨fun far => exec_refuses taken free.1 ?_, fun z hz => exec_answers taken free.1 ?_⟩
    · simp only [State.zoneGet, zoneOf_eq_none far]
    · simp only [State.zoneGet, zoneOf_eq_some hz]
      rfl
  · have taken := exec_of_free (fun t => t.meterGet slot) rfl hf free
    refine ⟨fun far => exec_refuses taken free.1 ?_, fun m hm => exec_answers taken free.1 ?_⟩
    · simp only [State.meterGet, slotOf_eq_none far]
    · simp only [State.meterGet, slotOf_eq_some hm]
      rfl
  · have taken := exec_of_free (fun t => t.channelGet ch) rfl hf free
    refine ⟨fun far => exec_refuses taken free.1 ?_, fun x hx => exec_answers taken free.1 ?_⟩
    · simp only [State.channelGet, chanOf_eq_none far]
    · simp only [State.channelGet, (chanOf_eq_some_iff ch x).mpr hx]
      rfl

/-! ## The requests of the stage and of one slot -/

/-- Settles O17: by the mode and the pending commit. -/
theorem discardStageEmpties : Obligations.DiscardStageEmpties := by
  intro ft s f hf free
  have taken := exec_of_free State.discardStage rfl hf free
  refine ⟨fun starting => exec_refuses taken free.1 (if_pos starting),
    fun mode locked => exec_refuses taken free.1 ((if_neg mode).trans (if_pos locked)), fun mode unlocked => ?_⟩
  have emptied : (s.inHand f).discardStage =
      ((s.inHand f).modStage Stage.emptied).answer .ok (enc8 s.stage.bindings.length) :=
    (if_neg mode).trans (if_neg (Bool.eq_false_iff.mp unlocked))
  exact exec_answers taken free.1 emptied

/-- Settles O21: the release itself, unless the slot is being served. -/
theorem meterReleaseFreesDoubtful : Obligations.MeterReleaseFreesDoubtful := by
  intro ft slot s f hf free
  have taken := exec_of_free (fun t => t.meterRelease slot) rfl hf free
  have released : ∀ m : SlotId, s.mode ≠ .starting → slot.toNat = m.val → s.serves m = false →
      (s.inHand f).meterRelease slot = (s.inHand f).releaseMeter m := fun m mode hm unserved => by
    rw [State.meterRelease, if_neg (show ¬(s.inHand f).mode = .starting from mode), slotOf_eq_some hm]
    exact if_neg (Bool.eq_false_iff.mp unserved)
  refine ⟨fun starting => exec_refuses taken free.1 (if_pos starting), fun mode far => exec_refuses taken free.1 ?_,
    fun m mode hm unserved sound => exec_refuses taken free.1 ((released m mode hm unserved).trans (if_neg sound)),
    fun m mode hm unserved doubtful => exec_answers taken free.1 ((released m mode hm unserved).trans (if_pos doubtful)),
    fun m mode hm served => ?_⟩
  · rw [State.meterRelease, if_neg (show ¬(s.inHand f).mode = .starting from mode), slotOf_eq_none far]
  · have waits : (s.inHand f).meterRelease slot =
        (s.inHand f).setWorking.modIntake fun i => { i with releaseWaiting := some m } := by
      rw [State.meterRelease, if_neg (show ¬(s.inHand f).mode = .starting from mode), slotOf_eq_some hm]
      exact if_pos served
    rw [taken, waits]
    rfl

end Sys2Proof.Proofs

/-! ## STAGE-METER -/

namespace Sys2Proof.Proofs

open Sys2Proof Machine Safety

/-- A source above NONE is REMOTE or PULSE. -/
theorem source_cases {b : MeterBinding} (known : ¬2 < b.source.toNat) (bound : ¬b.source = 0) :
    (b.source = 1 ∧ isRemote b = true ∧ isPulse b = false) ∨ (b.source = 2 ∧ isRemote b = false ∧ isPulse b = true) := by
  have : b.source = 1 ∨ b.source = 2 := by bv_omega
  rcases this with h | h <;> simp [isRemote, isPulse, h]

/-- A field that is tested only under a condition: the test fails when the condition holds and the field is out of range. -/
theorem unless_byteIn_iff {p q : Prop} [Decidable p] (hp : p ↔ ¬q) (hi : Nat) (x : Byte) :
    (decide p || byteIn 0 hi x) = true ↔ ¬(q ∧ hi < x.toNat) := by
  simp only [byteIn, Bool.or_eq_true, decide_eq_true_eq, Bool.and_eq_true, hp, Nat.zero_le, true_and, not_and, Nat.not_lt]
  exact imp_iff_not_or.symm

/-- The tests of a bound binding are those of the statement's list, field by field (R25). -/
theorem boundBindingFault_item {b : MeterBinding} (known : ¬2 < b.source.toNat) (bound : ¬b.source = 0) :
    (boundBindingFault b).map (BitVec.ofNat 8) = bindingItem b := by
  have digits : (isPulse b || byteIn 4 9 b.digits) = true ↔ ¬(b.source = 1 ∧ ¬(4 ≤ b.digits.toNat ∧ b.digits.toNat ≤ 9)) := by
    rcases source_cases known bound with ⟨hs, _, hp⟩ | ⟨hs, _, hp⟩ <;> simp [hs, hp, byteIn]
  have channel : (isRemote b || byteIn 0 15 b.channel) = true ↔ ¬(b.source = 2 ∧ 15 < b.channel.toNat) := by
    rcases source_cases known bound with ⟨hs, hr, _⟩ | ⟨hs, hr, _⟩ <;> simp [hs, hr, byteIn]
  have count : byteIn 0 2 b.count = true ↔ ¬2 < b.count.toNat := by simp [byteIn]
  simp only [boundBindingFault, firstFailing_cons, bindingItem, if_neg known, if_neg bound, digits, channel, count,
    apply_ite (Option.map (BitVec.ofNat 8)), ite_not, Bool.and_eq_true, decide_eq_true_eq, bne_iff_ne, ne_eq]
  by_cases many : 2 < b.count.toNat
  · simp only [if_pos many]; rfl
  · have first : b.count.toNat < 1 ↔ ¬1 ≤ b.count.toNat := by omega
    have second : b.count.toNat < 2 ↔ ¬b.count = 2 := by bv_omega
    have apart : (decide (b.count.toNat < 2) || b.zone1 != b.zone2) = true ↔ ¬(b.count = 2 ∧ b.zone1 = b.zone2) := by
      simp [second, imp_iff_not_or]
    simp only [unless_byteIn_iff first, unless_byteIn_iff second, apart, ite_not]
    rfl

/-- STAGE-METER's test 2 is that of the statement's list (R25). -/
theorem bindingFault_item (b : MeterBinding) : (bindingFault b).map (BitVec.ofNat 8) = bindingItem b := by
  unfold bindingFault
  split
  next unknown => simp only [bindingItem, if_pos unknown]; rfl
  next known =>
    split
    next cleared => simp only [bindingItem, if_neg known, if_pos cleared]; rfl
    next bound => exact boundBindingFault_item known bound

/-- The binding as the stage stores it, for a source above NONE (R25). -/
theorem storedBinding_of_bound {b : MeterBinding} (bound : b.source ≠ 0) : storedBinding b =
    { b with
      channel := if isPulse b then b.channel else 0
      digits := if isPulse b then 0 else b.digits
      zone1 := if b.count.toNat < 1 then 0 else b.zone1
      dir1 := if b.count.toNat < 1 then 0 else b.dir1
      zone2 := if b.count.toNat < 2 then 0 else b.zone2
      dir2 := if b.count.toNat < 2 then 0 else b.dir2 } := if_neg bound

theorem stage_holds_iff (g : Stage) (m : SlotId) : g.holds m = true ↔ ∃ p ∈ g.bindings, p.slot = m := by
  simp [Stage.holds]

/-- Settles O16: the tests of R25 in order, then the stage's write. -/
theorem stageMeterHoldsBinding : Obligations.StageMeterHoldsBinding := by
  intro ft slot b s f hf free
  have taken := exec_of_free (fun t => t.stageMeter slot b) rfl hf free
  have unlocked : s.mode ≠ .starting → s.stage.commitPending = false → ∀ m, slotOf slot = some m →
      (s.inHand f).stageMeter slot b = match bindingFault b with
        | some offset => (s.inHand f).refuse .range offset
        | none =>
          if !s.stage.holds m && stageMax ≤ s.stage.bindings.length then (s.inHand f).refuse .stageFull 0
          else ((s.modStage fun g => g.write { slot := m, binding := storedBinding b }).inHand f).answer .ok
            (enc8 (s.stage.write { slot := m, binding := storedBinding b }).bindings.length) :=
    fun mode pending m hm => by
      rw [State.stageMeter, if_neg (show ¬(s.inHand f).mode = .starting from mode),
        if_neg (show ¬(s.inHand f).stage.commitPending = true from Bool.eq_false_iff.mp pending), hm]
      rfl
  refine ⟨fun starting => exec_refuses taken free.1 (if_pos starting),
    fun mode locked => exec_refuses taken free.1 ((if_neg mode).trans (if_pos locked)), fun mode pending far => ?_,
    fun item mode pending near fails => ?_, fun m mode pending hm passes => ⟨fun new full => ?_, fun room => ?_⟩⟩
  · refine exec_refuses taken free.1 ?_
    rw [State.stageMeter, if_neg (show ¬(s.inHand f).mode = .starting from mode),
      if_neg (show ¬(s.inHand f).stage.commitPending = true from Bool.eq_false_iff.mp pending), slotOf_eq_none far]
  · rw [← bindingFault_item, Option.map_eq_some_iff] at fails
    obtain ⟨offset, fails, rfl⟩ := fails
    refine exec_refuses taken free.1 ((unlocked mode pending ⟨slot.toNat, by omega⟩ (slotOf_eq_some rfl)).trans ?_)
    rw [fails]
  · rw [← bindingFault_item, Option.map_eq_none_iff] at passes
    refine exec_refuses taken free.1 ((unlocked mode pending m (slotOf_eq_some hm)).trans ?_)
    have held : s.stage.holds m = false := Bool.eq_false_iff.mpr fun h => by
      obtain ⟨p, hp, same⟩ := (stage_holds_iff _ _).mp h
      exact new p hp same
    rw [passes]
    exact if_pos (by simp [held, stageMax, full])
  · rw [← bindingFault_item, Option.map_eq_none_iff] at passes
    refine ⟨(s.stage.write { slot := m, binding := storedBinding b }).bindings, storedBinding b, exec_answers
      (t := s.modStage fun g => g.write { slot := m, binding := storedBinding b }) taken free.1
      ((unlocked mode pending m (slotOf_eq_some hm)).trans ?_), fun p => mem_write, fun cleared => if_pos cleared, fun bound => ?_, fun remote => ?_, fun pulse => ?_, fun bound one => ?_,
      fun bound two => ?_, fun zero => ?_, fun less => ?_⟩
    · have writes : ¬(!s.stage.holds m && decide (stageMax ≤ s.stage.bindings.length)) = true := by
        rw [Bool.and_eq_true, Bool.not_eq_true', decide_eq_true_eq, ← Bool.not_eq_true, stage_holds_iff, stageMax]
        rintro ⟨new, full⟩
        exact room.elim new (by omega)
      rw [passes]
      exact if_neg writes
    · rw [storedBinding_of_bound bound]
      exact ⟨rfl, rfl, rfl, rfl, rfl⟩
    · rw [storedBinding_of_bound (by simp [remote])]
      simp [isPulse, remote]
    · rw [storedBinding_of_bound (by simp [pulse])]
      simp [isPulse, pulse]
    · rw [storedBinding_of_bound bound]
      exact ⟨if_neg (by omega), if_neg (by omega)⟩
    · rw [storedBinding_of_bound bound]
      exact ⟨if_neg (by simp [two]), if_neg (by simp [two])⟩
    · by_cases bound : b.source = 0
      · rw [storedBinding, if_pos bound]
        exact ⟨rfl, rfl⟩
      · rw [storedBinding_of_bound bound]
        exact ⟨if_pos (by simp [zero]), if_pos (by simp [zero])⟩
    · by_cases bound : b.source = 0
      · rw [storedBinding, if_pos bound]
        exact ⟨rfl, rfl⟩
      · rw [storedBinding_of_bound bound]
        exact ⟨if_pos less, if_pos less⟩

end Sys2Proof.Proofs

/-! ## SET-ZONE -/

namespace Sys2Proof.Proofs

open Sys2Proof Machine Safety

/-- The settings of SET-ZONE are tested by the statement's list (R21). -/
theorem settingsFault_item (x : ZoneSettings) : (settingsFault x).map (BitVec.ofNat 8) = zoneItem x := by
  have burst : (flowInRange x.tburst && decide (x.tfloor.toNat < x.tburst.toNat)) = true ↔
      (x.tfloor.toNat < x.tburst.toNat ∧ FlowField x.tburst) := by simp [flowInRange, and_comm]
  have hold : (x.holdLine = 0xFF || byteIn 0 15 x.holdLine) = true ↔ (x.holdLine = 0xFF ∨ x.holdLine.toNat ≤ 15) := by
    simp [byteIn]
  simp only [settingsFault, firstFailing_cons, zoneItem, burst, hold, ite_not, apply_ite (Option.map (BitVec.ofNat 8))]
  simp only [flowInRange, byteIn, Bool.and_eq_true, decide_eq_true_eq]
  rfl

/-- A zone whose setting was written, by its condition before (R21). -/
theorem configure_eq (z : Zone) (x : ZoneSettings) :
    let written := { z with entry := { configured := 1, settings := x }
                            code := zoneCode { configured := 1, settings := x }, mark := false }
    let byCount : Condition := if x.nSettle.toNat ≤ z.settling then .clear else .settling
    (z.condition = .unconfigured → z.configure x =
      { written with kept := .settling, baseline := 0, spread := 0, settling := 0, history := [], run := 0,
                     episodes := 0, holdFlag := false, lost := false, lastClose := none }) ∧
    (z.condition = .fault → z.configure x = { written with run := 0, kept := byCount }) ∧
    (z.condition = .settling → z.configure x = { written with kept := byCount }) ∧
    (z.condition ≠ .unconfigured → z.condition ≠ .fault → z.condition ≠ .settling → z.configure x = written) := by
  dsimp only
  refine ⟨fun h => ?_, fun h => ?_, fun h => ?_, fun h1 h2 h3 => ?_⟩
  · simp only [Zone.configure, h]
  · simp only [Zone.configure, h, Zone.settled, decide_eq_true_eq]
  · simp only [Zone.configure, h, Zone.settled, decide_eq_true_eq]
  · unfold Zone.configure
    cases hc : z.condition <;> simp_all

/-- The hold edges give a zone no more than a held mark of its record. -/
theorem zone_holdEdges (s old : State) (z : ZoneId) :
    (s.holdEdges old).zone z = { s.zone z with record := ((s.holdEdges old).zone z).record } := by
  simp only [State.holdEdges, State.zone_mapZones]
  split <;> rfl

/-- A hold that stays as it was is no edge (R93). -/
theorem zone_holdEdges_of_same {s old : State} {z : ZoneId} (h : s.holdActive z = old.holdActive z) :
    (s.holdEdges old).zone z = s.zone z := by
  simp only [State.holdEdges, State.zone_mapZones, h]
  exact if_neg (by simp)

/-- The part after SET-ZONE's write: the zone's new entry, and the hold edges (R21). -/
def withSettings (s : State) (z : ZoneId) (x : ZoneSettings) : State := (s.modZone z (·.configure x)).holdEdges s

theorem writeZone_inHand {s : State} {f : Frame} {z : ZoneId} {x : ZoneSettings} (passes : zoneItem x = none) :
    (s.inHand f).writeZone z x =
      ((withSettings s z x).inHand f).answer .ok ((withSettings s z x).zone z).conditionBytes := by
  have passes : settingsFault x = none := by rwa [← settingsFault_item, Option.map_eq_none_iff] at passes
  rw [State.writeZone, passes]
  rfl

/-- The write shows in zone z alone, and there its entry and what R21 says of the condition before. -/
theorem withSettings_zones (s : State) (z : ZoneId) (x : ZoneSettings) :
    withSettings s z x = { s with zones := (withSettings s z x).zones } ∧
      (∀ y, y ≠ z → (withSettings s z x).zone y = s.zone y) ∧
      { (withSettings s z x).zone z with record := (s.zone z).record } = (s.zone z).configure x := by
  refine ⟨rfl, fun y hy => ?_, ?_⟩
  · have apart : (s.modZone z (·.configure x)).zone y = s.zone y := by rw [State.zone_modZone, if_neg hy]
    have same : (s.modZone z (·.configure x)).holdActive y = s.holdActive y :=
      holdActive_congr (s := s) (u := s.modZone z _) (fun _ => ⟨rfl, rfl⟩) apart
    rw [withSettings, zone_holdEdges_of_same same, apart]
  · obtain ⟨-, -, record⟩ := configure_entry (s.zone z) x
    rw [withSettings, zone_holdEdges, State.zone_modZone, if_pos rfl, ← record]

/-- No slot has a membership in the zone, or the lowest one is named (R22). -/
theorem lowestMember_eq_none {s : State} {z : ZoneId} (h : ∀ k, ∀ q ∈ (s.meter k).members, q.1 ≠ z) :
    s.lowestMember z = none := by
  have empty : s.memberSet z = [] := by
    simpa [State.memberSet, List.flatMap_eq_nil_iff, List.filter_eq_nil_iff] using h
  simp [State.lowestMember, empty]

theorem lowestMember_eq_some {s : State} {z : ZoneId} {m : SlotId} (member : ∃ q ∈ (s.meter m).members, q.1 = z)
    (lowest : ∀ k, k < m → ∀ q ∈ (s.meter k).members, q.1 ≠ z) : s.lowestMember z = some m := by
  obtain ⟨before, after, whole⟩ := List.append_of_mem (List.mem_finRange m)
  have sorted := (List.sortedLT_finRange 128).pairwise
  rw [whole, List.pairwise_append] at sorted
  obtain ⟨-, -, less⟩ := sorted
  have empty : (before.flatMap fun k => ((s.meter k).members.filter fun p => p.1 = z).map fun p => (k, p.2)) = [] := by
    simpa [List.flatMap_eq_nil_iff, List.filter_eq_nil_iff] using
      fun k hk => lowest k (less k hk m List.mem_cons_self)
  obtain ⟨q, hq, same⟩ := member
  have listed : q ∈ (s.meter m).members.filter fun p => p.1 = z := List.mem_filter.mpr ⟨hq, decide_eq_true same⟩
  obtain ⟨p, ps, found⟩ := List.exists_cons_of_ne_nil (List.ne_nil_of_mem listed)
  simp only [State.lowestMember, State.memberSet, whole, List.flatMap_append, empty, List.flatMap_cons, found, List.map_cons,
    List.nil_append, List.cons_append, List.head?_cons, Option.map_some]

/-- Settles O37: by the option, and for a write by the zone's condition before. -/
theorem setZoneWritesOrUnconfigures : Obligations.SetZoneWritesOrUnconfigures := by
  intro ft zone option x s f c hc hf free
  have taken : exec c s = .next ((s.inHand f).setZone zone option x) := by
    rcases hc with rfl | ⟨rfl, rfl⟩
    · exact exec_of_free (fun t => t.setZone zone option x) rfl hf free
    · exact exec_of_free (fun t => t.setZone zone 1 x) rfl hf free
  have inSetup : s.mode = .setup → ∀ z, zoneOf zone = some z → (s.inHand f).setZone zone option x =
      if option = 0 then (s.inHand f).writeZone z x
      else if option = 1 then (s.inHand f).unconfigureZone z else (s.inHand f).refuse .range 1 := fun mode z hz => by
    rw [State.setZone, if_pos (show (s.inHand f).mode = .setup from mode), hz]
  refine ⟨fun mode => exec_refuses taken free.1 (if_neg mode), fun mode far => exec_refuses taken free.1 ?_,
    fun mode near far => ?_, fun z item mode hz write fails => ?_, fun z old written mode hz write passes hold hwritten => ?_,
    fun z m mode hz unconfigure member lowest => ?_, fun z mode hz unconfigure empty => ?_⟩
  · rw [State.setZone, if_pos (show (s.inHand f).mode = .setup from mode), zoneOf_eq_none far]
  · refine exec_refuses taken free.1 ((inSetup mode ⟨zone.toNat, by omega⟩ (zoneOf_eq_some rfl)).trans ?_)
    rw [if_neg (by rintro rfl; exact absurd far (by decide)), if_neg (by rintro rfl; exact absurd far (by decide))]
  · rw [← settingsFault_item, Option.map_eq_some_iff] at fails
    obtain ⟨offset, fails, rfl⟩ := fails
    refine exec_refuses taken free.1 ((inSetup mode z (zoneOf_eq_some hz)).trans ?_)
    simp only [if_pos write, State.writeZone, fails]
  · subst hold hwritten
    obtain ⟨frame, others, entry⟩ := withSettings_zones s z x
    obtain ⟨unconfigured, fault, settling, rest⟩ := configure_eq (s.zone z) x
    refine ⟨withSettings s z x, exec_answers taken free.1 ((inSetup mode z (zoneOf_eq_some hz)).trans
      ((if_pos write).trans (writeZone_inHand passes))), frame, others, ?_, ?_, ?_, ?_⟩
    all_goals rw [entry]
    · exact unconfigured
    · exact fault
    · exact settling
    · exact rest
  · refine exec_answers taken free.1 ((inSetup mode z (zoneOf_eq_some hz)).trans ?_)
    have named : (s.inHand f).lowestMember z = some m := lowestMember_eq_some member lowest
    rw [if_neg (by rw [unconfigure]; decide), if_pos unconfigure, State.unconfigureZone, named]
    simp only [refusalDetail, enc8, ← hz, BitVec.ofNat_toNat, BitVec.setWidth_eq]
    rfl
  · have none : (s.inHand f).lowestMember z = none := lowestMember_eq_none empty
    have answers : (s.inHand f).setZone zone option x =
        let done := if (s.zone z).condition = .unconfigured then s.inHand f else (s.inHand f).putZone z resetZone
        done.answer .ok (done.zone z).conditionBytes := by
      rw [inSetup mode z (zoneOf_eq_some hz), if_neg (by rw [unconfigure]; decide), if_pos unconfigure,
        State.unconfigureZone, none]
      rfl
    refine ⟨fun out => exec_answers taken free.1 (answers.trans ?_), fun used => exec_answers taken free.1 (answers.trans ?_)⟩
    · rw [if_pos out]
      dsimp only
      have zero : ((s.inHand f).zone z).conditionBytes = [0] :=
        congrArg (fun k : Condition => enc8 k.code) out
      rw [zero]
    · rw [if_neg used]
      dsimp only
      rw [State.zone_putZone, if_pos rfl]
      rfl

end Sys2Proof.Proofs

/-! ## COMMIT-STAGE and its validation -/

namespace Sys2Proof.Proofs

open Sys2Proof Machine Safety Laws

/-! ### The validation beside the link -/

theorem verifyAll_link (s : State) (l : Link) (es : List Subject) :
    (withLink l s).verifyAll es = withLink l (s.verifyAll es) := by
  induction es generalizing s with
  | nil => rfl
  | cons e es ih => exact (congrArg (State.verifyAll · es) (verify_link s l e)).trans (ih _)

/-- A state and a failure, with the link l. -/
def withLinkFst (l : Link) (v : State × Option CommitFailure) : State × Option CommitFailure := (withLink l v.1, v.2)

theorem testZones_link (s : State) (l : Link) (m : SlotId) (zs : List ZoneId) :
    (withLink l s).testZones m zs = withLinkFst l (s.testZones m zs) := by
  induction zs generalizing s with
  | nil => rfl
  | cons z zs ih =>
    simp only [State.testZones, verify_link, apply_ite (withLinkFst l), ih]
    rfl

theorem testPending_link (s : State) (l : Link) (p : PendingBinding) :
    (withLink l s).testPending p = withLinkFst l (s.testPending p) := by
  simp only [State.testPending, testZones_link, apply_ite (withLinkFst l)]
  refine if_congr .rfl rfl ?_
  dsimp only [withLinkFst]
  cases (s.testZones p.slot ((memberships p.binding).map Prod.fst)).2 with
  | some failure => rfl
  | none =>
    dsimp only
    rw [show ∀ t : State, (withLink l t).unstagedBound = t.unstagedBound from fun _ => rfl, verifyAll_link]
    rfl

/-- The validation reads nothing of the link and leaves it alone. -/
theorem validate_link (s : State) (l : Link) (ps : List PendingBinding) :
    (withLink l s).validate ps = withLinkFst l (s.validate ps) := by
  induction ps generalizing s with
  | nil => rfl
  | cons p ps ih =>
    simp only [State.validate, testPending_link]
    dsimp only [withLinkFst]
    cases (s.testPending p).2 with
    | some failure => rfl
    | none => exact ih _

theorem validate_inHand (s : State) (f : Frame) (ps : List PendingBinding) :
    (s.inHand f).validate ps = (((s.validate ps).1.inHand f), (s.validate ps).2) := by
  have link : (s.validate ps).1.link = s.link := by rw [validate_onlyFault s ps]
  unfold State.inHand State.modLink
  rw [link]
  exact validate_link s _ ps

theorem applyCommit_link (s : State) (l : Link) : (withLink l s).applyCommit = withLink l s.applyCommit := by
  unfold State.applyCommit
  rw [writeBindings_link]
  rfl

theorem applyCommit_inHand (s : State) (f : Frame) : (s.inHand f).applyCommit = s.applyCommit.inHand f := by
  have link : s.applyCommit.link = s.link := by rw [applyCommit_onlyCommit s]
  unfold State.inHand State.modLink
  rw [link]
  exact applyCommit_link s _

/-- The validation of a stage that is not empty, failed (R27). -/
theorem commitStage_of_failure {s : State} {x : CommitFailure} (mode : s.mode ≠ .starting)
    (pending : s.stage.commitPending = false) (bindings : s.stage.bindings ≠ [])
    (fails : (s.validate s.stage.bindings).2 = some x) : s.commitStage =
      (s.validate s.stage.bindings).1.answer .invalid (refusalDetail x.test 2 x.slot.val x.kindB x.numberB) := by
  rw [State.commitStage, if_neg mode, if_neg (Bool.eq_false_iff.mp pending), if_neg bindings]
  simp only [fails]

/-- The validation passed (R27, R28). -/
theorem commitStage_of_pass {s : State} (mode : s.mode ≠ .starting) (pending : s.stage.commitPending = false)
    (bindings : s.stage.bindings ≠ []) (passes : (s.validate s.stage.bindings).2 = none) :
    s.commitStage = (s.validate s.stage.bindings).1.acceptCommit := by
  rw [State.commitStage, if_neg mode, if_neg (Bool.eq_false_iff.mp pending), if_neg bindings]
  simp only [passes]

/-- Settles O18: the tests before the validation, then its outcome and the mode. -/
theorem commitStageValidates : Obligations.CommitStageValidates := by
  intro ft s t f v hf free hv
  have taken := exec_of_free State.commitStage rfl hf free
  have only : OnlyFault s v.1 := hv ▸ validate_onlyFault s s.stage.bindings
  have pin : v.1.link.resetLow = false := by rw [only]; exact free.1
  have staged : v.1.stage = s.stage := by rw [only]
  have mode : v.1.mode = s.mode := congrArg ModeControl.mode (show v.1.ctl = s.ctl by rw [only])
  have validated : (s.inHand f).validate (s.inHand f).stage.bindings = (v.1.inHand f, v.2) := by
    rw [hv]
    exact validate_inHand s f _
  have failed : ∀ x, s.mode ≠ .starting → s.stage.commitPending = false → s.stage.bindings ≠ [] → v.2 = some x →
      (s.inHand f).commitStage =
        (v.1.inHand f).answer .invalid (refusalDetail x.test 2 x.slot.val x.kindB x.numberB) :=
    fun x mode pending bindings fails => by
      rw [commitStage_of_failure (s := s.inHand f) mode pending bindings (by rw [validated]; exact fails), validated]
  have passed : s.mode ≠ .starting → s.stage.commitPending = false → s.stage.bindings ≠ [] → v.2 = none →
      (s.inHand f).commitStage = (v.1.inHand f).acceptCommit := fun mode pending bindings passes => by
    rw [commitStage_of_pass (s := s.inHand f) mode pending bindings (by rw [validated]; exact passes), validated]
  refine ⟨fun starting => exec_refuses taken free.1 (if_pos starting),
    fun mode locked => exec_refuses taken free.1 ((if_neg mode).trans (if_pos locked)),
    fun mode pending empty => exec_answers taken free.1
      ((if_neg mode).trans ((if_neg (Bool.eq_false_iff.mp pending)).trans (if_pos empty))),
    fun failure mode pending bindings fails => exec_answers taken pin (failed failure mode pending bindings fails),
    fun setup pending bindings passes ht => ?_, fun run pending bindings passes ht => ?_⟩
  · subst ht
    have link : v.1.applyCommit.link = v.1.link := by rw [applyCommit_onlyCommit v.1]
    refine exec_answers taken (by rw [link]; exact pin) ((passed (by simp [setup]) pending bindings passes).trans ?_)
    rw [State.acceptCommit, if_pos (show (v.1.inHand f).mode = .setup from mode.trans setup), applyCommit_inHand, ← staged]
    rfl
  · subst ht
    refine exec_answers taken pin ((passed (by simp [run]) pending bindings passes).trans ?_)
    rw [State.acceptCommit, if_neg (show ¬(v.1.inHand f).mode = .setup by
      rw [show (v.1.inHand f).mode = .run from mode.trans run]; decide), ← staged]
    rfl

/-! ### The validation when every entry matches -/

theorem inService_iff (z : Zone) : z.inService = true ↔ z.condition ≠ .unconfigured ∧ z.condition ≠ .fault := by
  simp [Zone.inService]

/-- The zones of a pending binding are in service (R27, test 1). -/
def ZonesInService (s : State) (p : PendingBinding) : Prop :=
  ∀ q ∈ memberships p.binding, (s.zone q.1).condition ≠ .unconfigured ∧ (s.zone q.1).condition ≠ .fault

section

variable {s : State} (matching : AllMatch s) (clear : ∀ z, (s.zone z).mark = false)
include matching

theorem verifyAll_of_match (es : List Subject) : s.verifyAll es = s := by
  induction es with
  | nil => rfl
  | cons e es ih => exact (congrArg (State.verifyAll · es) (verify_of_settled (.inl (matching e)))).trans ih

include clear

theorem testZones_of_match (m : SlotId) (zs : List ZoneId) :
    (s.testZones m zs).1 = s ∧ ((s.testZones m zs).2 = none ↔ ∀ z ∈ zs, (s.zone z).inService = true) := by
  induction zs with
  | nil => simp [State.testZones]
  | cons z zs ih =>
    simp only [State.testZones, verify_of_settled (.inl (matching _)), clear, Bool.not_false, Bool.and_true,
      List.forall_mem_cons]
    by_cases service : (s.zone z).inService = true
    · simpa only [service, if_true, true_and] using ih
    · simp [service]

theorem testPending_of_match (p : PendingBinding) :
    (s.testPending p).1 = s ∧ ((s.testPending p).2 = none ↔ (p.binding.source ≠ 0 → ZonesInService s p ∧ Fits s p)) := by
  by_cases none_ : p.binding.source = 0
  · simp [State.testPending, none_]
  · obtain ⟨same, passes⟩ := testZones_of_match matching clear p.slot ((memberships p.binding).map Prod.fst)
    have service : (∀ z ∈ (memberships p.binding).map Prod.fst, (s.zone z).inService = true) ↔ ZonesInService s p := by
      simp only [List.forall_mem_map, inService_iff]
      rfl
    rw [service] at passes
    rw [State.testPending, if_neg none_]
    dsimp only
    rw [forall_prop_of_true none_]
    cases tested : (s.testZones p.slot ((memberships p.binding).map Prod.fst)).2 with
    | some failure =>
      refine ⟨same, iff_of_false nofun fun ⟨ok, _⟩ => ?_⟩
      rw [passes.mpr ok] at tested
      cases tested
    | none =>
      rw [same, verifyAll_of_match matching, tests_eq_none_iff]
      exact ⟨rfl, (and_iff_right (passes.mp tested)).symm⟩

/-- When every entry matches, a validation changes nothing, and goes by its tests (R27). -/
theorem validate_of_match (ps : List PendingBinding) :
    (s.validate ps).1 = s ∧
      ((s.validate ps).2 = none ↔ ∀ p ∈ ps, p.binding.source ≠ 0 → ZonesInService s p ∧ Fits s p) := by
  induction ps with
  | nil => simp [State.validate]
  | cons p ps ih =>
    obtain ⟨same, passes⟩ := testPending_of_match matching clear p
    simp only [State.validate, List.forall_mem_cons]
    split
    next failure failed =>
      refine ⟨same, iff_of_false nofun fun ⟨ok, _⟩ => ?_⟩
      rw [passes.mpr ok] at failed
      cases failed
    next passed =>
      rw [same, and_iff_right (passes.mp passed)]
      exact ih

end

/-- Settles O19: the statement's table is the resulting table, and its tests are those of `Fits`. -/
theorem validationLaw : Obligations.ValidationLaw := by
  intro s table matching clear htable
  obtain ⟨same, passes⟩ := validate_of_match matching clear s.stage.bindings
  have resulting : s.resulting = table := by
    funext m
    rw [htable, resulting_eq]
    rfl
  refine ⟨same, passes.trans (forall₃_congr fun p _ _ => ?_)⟩
  constructor
  · rintro ⟨service, members, tag, channel⟩
    simp only [State.resultingMembers, resulting] at members tag channel
    exact ⟨fun q hq => ⟨(service q hq).1, (service q hq).2, members q hq⟩, tag, channel⟩
  · rintro ⟨zones, tag, channel⟩
    refine ⟨fun q hq => ⟨(zones q hq).1, (zones q hq).2.1⟩, ?_, ?_, ?_⟩
    all_goals simp only [State.resultingMembers, resulting]
    · exact fun q hq => (zones q hq).2.2
    · exact tag
    · exact channel

end Sys2Proof.Proofs

/-! ## The application of a commit -/

namespace Sys2Proof.Proofs

open Sys2Proof Machine Safety Laws

/-! ### One slot -/

/-- Two bindings have the same source in the sense of R30. -/
theorem sameSource_iff (a b : MeterBinding) : sameSource a b = true ↔
    (b.source = 1 ∧ a.source = 1) ∨ (b.source = 2 ∧ a.source = 2 ∧ a.channel = b.channel) := by
  simp only [sameSource, isRemote, isPulse, Bool.or_eq_true, Bool.and_eq_true, decide_eq_true_eq]
  grind

/-- The rows of R30's table. -/
theorem apply_eq (m : MeterSlot) (b : MeterBinding) :
    let kept := { m with binding := b, code := bindingCode b, mark := false }
    let afresh := { kept with state := .awaiting, lastPoint := none, doubt := 0 }
    (b.source = 0 → m.state = .unbound → m.apply b = kept) ∧
    (b.source = 0 → m.state ≠ .unbound → m.apply b = { kept with state := .unbound, lastPoint := none, doubt := 0 }) ∧
    (b.source ≠ 0 → (m.state = .unbound ∨ m.state = .faulted) → m.apply b = afresh) ∧
    (b.source ≠ 0 → m.state ≠ .unbound → m.state ≠ .faulted → m.apply b =
      if m.binding.tag = b.tag && sameSource m.binding b then kept else afresh) := by
  dsimp only
  unfold MeterSlot.apply
  refine ⟨fun hb hm => ?_, fun hb hm => ?_, fun hb hm => ?_, fun hb hu hf => ?_⟩
  · simp only [hb, hm, if_true]
  · cases hs : m.state with
    | unbound => exact absurd hs hm
    | _ => simp only [hb, if_true]
  · rcases hm with hm | hm <;> simp only [hb, hm, if_false]
  · cases hs : m.state with
    | unbound => exact absurd hs hu
    | faulted => exact absurd hs hf
    | _ => simp only [hb, if_false]

/-- A slot after the commit: its pending binding applied, or unchanged (R30). -/
theorem meter_applyCommit_of_mem {s : State} (nodup : (s.stage.bindings.map (·.slot)).Nodup) {m : SlotId} {b : MeterBinding}
    (h : { slot := m, binding := b } ∈ s.stage.bindings) : s.applyCommit.meter m = (s.meter m).apply b := by
  rw [meter_applyCommit s nodup, find?_slot_eq_some nodup h]

theorem meter_applyCommit_of_absent {s : State} (nodup : (s.stage.bindings.map (·.slot)).Nodup) {m : SlotId}
    (h : ∀ p ∈ s.stage.bindings, p.slot ≠ m) : s.applyCommit.meter m = s.meter m := by
  have absent : (s.stage.bindings.find? fun p => p.slot = m) = none := by simpa [List.find?_eq_none] using h
  rw [meter_applyCommit s nodup, absent]

/-! ### One zone -/

variable {s t : State}

/-- A slot is rebound when its tag or its source changed (R31); for a REMOTE source the channel does not count. -/
theorem rebound_iff (m : SlotId) : t.rebound s m = true ↔ ((t.meter m).binding.tag ≠ (s.meter m).binding.tag ∨
    (t.meter m).binding.source ≠ (s.meter m).binding.source ∨
    ((t.meter m).binding.source ≠ 1 ∧ (t.meter m).binding.channel ≠ (s.meter m).binding.channel)) := by
  simp only [State.rebound, Bool.or_eq_true, bne_iff_ne, Bool.not_eq_true', ← Bool.not_eq_true, sameSource_iff,
    decide_eq_true_eq, Bool.and_eq_true]
  grind

theorem memberSetChanged_iff (z : ZoneId) : t.memberSetChanged s z = true ↔
    (t.memberSet z ≠ s.memberSet z ∨ ∃ q ∈ t.memberSet z, t.rebound s q.1 = true) := by
  simp [State.memberSetChanged]

/-- A record that is not CLOSING, brought up to date (R31). -/
theorem updatedRecord_of_open {r : NightRecord} (h : r.state ≠ .closing) (z : ZoneId) : t.updatedRecord s z r =
    { r with members := t.updatedMembers s z r, changed := r.changed || decide (r.state ≠ .waiting) } := by
  unfold State.updatedRecord
  cases hs : r.state <;> simp_all

/-- The entry of a member of the new set: fresh when the slot is rebound or the record had no such entry, and otherwise the
record's own. -/
theorem mem_updatedMembers {z : ZoneId} {r : NightRecord} {e : Member} (h : e ∈ t.updatedMembers s z r) :
    ((t.rebound s e.slot = true ∨ ∀ e' ∈ r.members, e'.slot = e.slot → e'.dir ≠ e.dir) → e.reach = none ∧ e.gaps = 0) ∧
      (¬t.rebound s e.slot = true → (∃ e' ∈ r.members, e'.slot = e.slot ∧ e'.dir = e.dir) → e ∈ r.members) := by
  obtain ⟨p, -, rfl⟩ := List.mem_map.mp h
  split
  next e' found =>
    have matching : e'.slot = p.1 ∧ e'.dir = p.2 := by simpa using List.find?_some found
    have listed := List.mem_of_find?_eq_some found
    split
    next rebound => exact ⟨fun _ => ⟨rfl, rfl⟩, fun stays => absurd rebound stays⟩
    next stays =>
      rw [matching.1]
      refine ⟨fun h => ?_, fun _ _ => listed⟩
      exact (h.resolve_left stays e' listed matching.1 rfl).elim
  next absent =>
    refine ⟨fun _ => ⟨rfl, rfl⟩, fun _ ⟨e', he', slot, dir⟩ => ?_⟩
    exact absurd (List.find?_eq_none.mp absent e' he') (by simp [slot, dir, freshMember])

theorem updatedMembers_pairs (z : ZoneId) (r : NightRecord) :
    (t.updatedMembers s z r).map (fun e => (e.slot, e.dir)) = t.memberSet z := by
  rw [State.updatedMembers, List.map_map]
  refine (List.map_congr_left fun p _ => ?_).trans (List.map_id _)
  dsimp only [Function.comp]
  split
  next e' found =>
    have matching : e'.slot = p.1 ∧ e'.dir = p.2 := by simpa using List.find?_some found
    split
    · rfl
    · rw [matching.1, matching.2]
      rfl
  next => rfl

/-- A zone after the commit: its record follows the member set (R31). -/
theorem zone_applyCommit (s : State) (z : ZoneId) : s.applyCommit.zone z =
    if s.applyCommit.memberSetChanged s z then
      { s.zone z with record := (s.zone z).record.map (s.applyCommit.updatedRecord s z) }
    else s.zone z := by
  have meters := meters_applyCommit s
  have record : s.applyCommit.updatedRecord s z = s.writeBindings.updatedRecord s z := by
    funext r
    simp only [State.updatedRecord, State.updatedMembers, memberSet_congr meters, rebound_congr meters rfl]
  rw [memberSetChanged_congr meters rfl, record]
  simp only [State.applyCommit, State.zone_modStage, State.followMembers, State.zone_mapZones,
    zone_congr (zones_writeBindings s)]

/-- Settles O20: R30 for one slot, R31 for one zone. -/
theorem commitAppliesBindings : Obligations.CommitAppliesBindings := by
  rintro s u rfl nodup
  refine ⟨applyCommit_onlyCommit s, applyCommit_stage s, fun m old hold => ?_, fun z moved changes hmoved hchanges => ?_⟩
  · subst hold
    refine ⟨meter_applyCommit_of_absent nodup, fun b kept afresh mem hkept hafresh => ?_⟩
    subst hkept hafresh
    rw [meter_applyCommit_of_mem nodup mem]
    obtain ⟨cleared, unbinds, binds, rebinds⟩ := apply_eq (s.meter m) b
    refine ⟨cleared, unbinds, binds, fun source bound sound tag same => ?_, fun source bound sound differs => ?_⟩
    · rw [rebinds source bound sound, if_pos (by rw [Bool.and_eq_true, sameSource_iff]; exact ⟨decide_eq_true tag, same⟩)]
    · rw [rebinds source bound sound, if_neg]
      rw [Bool.and_eq_true, sameSource_iff, decide_eq_true_eq, not_and_or]
      exact differs
  · have rebound : ∀ m, moved m ↔ s.applyCommit.rebound s m = true := fun m => (hmoved m).trans (rebound_iff m).symm
    have changed : changes ↔ s.applyCommit.memberSetChanged s z = true := by
      simp only [hchanges, memberSetChanged_iff, rebound]
    refine ⟨fun stays => ?_, fun r change record opened => ?_⟩
    · rw [zone_applyCommit]
      split
      next change =>
        rcases stays with same | none_ | ⟨r, record, closing⟩
        · exact absurd (changed.mpr change) same
        · rw [none_, Option.map_none, ← none_]
        · rw [record, Option.map_some, State.updatedRecord, closing, ← record]
      next => rfl
    · refine ⟨s.applyCommit.updatedMembers s z r, _, rfl, ?_, updatedMembers_pairs z r, fun e he => ?_⟩
      · rw [zone_applyCommit, if_pos (changed.mp change), record, Option.map_some, updatedRecord_of_open opened]
      · simp only [rebound]
        exact mem_updatedMembers he

end Sys2Proof.Proofs

/-! ## RESTART -/

namespace Sys2Proof.Proofs

open Sys2Proof Machine Safety Laws

/-! ### The gates evaluated afresh (R52) -/

/-- What decides whether a channel's sources are asserted, kept from one channel value to another. -/
structure SameGate (c d : Channel) : Prop where
  mode : d.mode = c.mode
  asserted : d.asserted = c.asserted
  softGate : d.softGate = c.softGate
  gateLine : d.gateLine = c.gateLine

theorem gateAsserted_congr {s t : State} (h : ∀ x, SameGate (s.channel x) (t.channel x)) (x : ChanId) :
    t.gateAsserted x = s.gateAsserted x := by
  simp only [State.gateAsserted, (h x).softGate, (h x).gateLine]
  cases (s.channel x).gateLine with
  | none => rfl
  | some l => simp only [State.lineAsserted, (h l).mode, (h l).asserted]

/-- A COUNT channel whose gate is evaluated afresh. -/
def afresh (now : Nat) (asserted : Bool) (c : Channel) : Channel :=
  if asserted then c.gate now c.tally else { c with state := .counting, gateRecord := none }

theorem sameGate_afresh (now : Nat) (asserted : Bool) (c : Channel) : SameGate c (afresh now asserted c) := by
  cases asserted <;> exact ⟨rfl, rfl, rfl, rfl⟩

theorem channel_gateAfresh (s : State) (y x : ChanId) : (s.gateAfresh y).channel x =
    if x = y then afresh s.now (s.gateAsserted y) (s.channel y) else s.channel x :=
  State.channel_modChannel ..

/-- One channel after another, each COUNT channel by its own sources. -/
theorem channel_foldl_gateAfresh (s : State) {xs : List ChanId} (nodup : xs.Nodup) (x : ChanId) :
    (xs.foldl (fun t y => if (t.channel y).mode = .count then t.gateAfresh y else t) s).channel x =
      if x ∈ xs ∧ (s.channel x).mode = .count then afresh s.now (s.gateAsserted x) (s.channel x) else s.channel x := by
  induction xs generalizing s with
  | nil => simp
  | cons y ys ih =>
    obtain ⟨fresh, nodup⟩ := List.nodup_cons.mp nodup
    rw [List.foldl_cons, ih _ nodup]
    by_cases count : (s.channel y).mode = .count
    · have same : ∀ z, SameGate (s.channel z) ((s.gateAfresh y).channel z) := fun z => by
        rw [channel_gateAfresh]
        split
        next hz => exact hz ▸ sameGate_afresh _ _ _
        next => exact ⟨rfl, rfl, rfl, rfl⟩
      rw [if_pos count, gateAsserted_congr same, (same x).mode, channel_gateAfresh]
      by_cases hx : x = y
      · subst hx
        simp [fresh, count]
      · simp only [List.mem_cons, hx, false_or, if_false]
        rfl
    · rw [if_neg count]
      refine if_congr ?_ rfl rfl
      rw [List.mem_cons, or_and_right]
      exact (or_iff_right fun ⟨hx, hc⟩ => count (hx ▸ hc)).symm

theorem channel_gatesAfresh (s : State) (x : ChanId) : s.gatesAfresh.channel x =
    if (s.channel x).mode = .count then afresh s.now (s.gateAsserted x) (s.channel x) else s.channel x := by
  refine (channel_foldl_gateAfresh s (List.nodup_finRange 16) x).trans ?_
  simp only [List.mem_finRange, true_and]

theorem gatesAfresh_onlyChannels (s : State) : s.gatesAfresh = { s with channels := s.gatesAfresh.channels } := by
  unfold State.gatesAfresh
  generalize List.finRange 16 = xs
  induction xs generalizing s with
  | nil => rfl
  | cons x xs ih =>
    rw [List.foldl_cons, ih]
    split <;> rfl

/-! ### The work in flight -/

theorem faultedCount_congr {s t : State} (zones : ∀ z, (t.zone z).mark = (s.zone z).mark)
    (meters : ∀ m, (t.meter m).mark = (s.meter m).mark) : t.faultedCount = s.faultedCount := by
  have zones : t.zones.map (·.mark) = s.zones.map (·.mark) :=
    Vector.ext fun i hi => by simpa [State.zone] using zones ⟨i, hi⟩
  have meters : t.meters.map (·.mark) = s.meters.map (·.mark) :=
    Vector.ext fun i hi => by simpa [State.meter] using meters ⟨i, hi⟩
  have counted : ∀ u : State, u.faultedCount =
      (u.zones.map (·.mark)).toList.countP id + (u.meters.map (·.mark)).toList.countP id := fun u => by
    simp only [Vector.toList_map, List.countP_map]
    rfl
  rw [counted, counted, zones, meters]

/-- The part as RESTART clears it, but for the gates. -/
def cleared (s : State) : State :=
  { s with
    time := { s.time with pendingTrim := 0 }
    zones := (s.mapZones fun _ z => { z.calm with record := none }).zones
    meters := (s.mapMeters fun _ m => m.restart).meters
    stage := { bindings := [], commitPending := false, due := false }
    channels := (s.mapChannels fun _ c => c.restart).channels
    intake := { hand := .idle, pointer := s.intake.pointer, touched := [], releaseWaiting := none }
    analyser := { analysing := none, raced := [] }
    findings := []
    checker := s.checker.abandon
    ctl := { mode := .setup, leaving := none, restarting := false } }

theorem restartClear_eq (s : State) : s.restartClear = (cleared s).gatesAfresh := rfl

theorem restartClear_onlyChannels (s : State) : s.restartClear = { cleared s with channels := s.restartClear.channels } := by
  rw [restartClear_eq]
  exact gatesAfresh_onlyChannels (cleared s)

theorem channel_cleared (s : State) (x : ChanId) : (cleared s).channel x = (s.channel x).restart :=
  State.channel_mapChannels ..

theorem gateAsserted_cleared (s : State) (x : ChanId) : (cleared s).gateAsserted x = s.gateAsserted x :=
  gateAsserted_congr (fun y => by rw [channel_cleared]; exact ⟨rfl, rfl, rfl, rfl⟩) x

theorem zone_restartClear (s : State) (z : ZoneId) : s.restartClear.zone z = { (s.zone z).calm with record := none } := by
  have zones : s.restartClear.zones = (s.mapZones fun _ z => { z.calm with record := none }).zones := by
    rw [restartClear_onlyChannels]
    rfl
  rw [zone_congr zones, State.zone_mapZones]

theorem meter_restartClear (s : State) (m : SlotId) : s.restartClear.meter m = (s.meter m).restart := by
  have meters : s.restartClear.meters = (s.mapMeters fun _ m => m.restart).meters := by
    rw [restartClear_onlyChannels]
    rfl
  rw [meter_congr meters, State.meter_mapMeters]

theorem channel_restartClear (s : State) (x : ChanId) : s.restartClear.channel x =
    if (s.channel x).mode = .count then afresh s.now (s.gateAsserted x) (s.channel x).restart
    else (s.channel x).restart := by
  rw [restartClear_eq, channel_gatesAfresh, channel_cleared, gateAsserted_cleared]
  rfl

/-- RESTART keeps every fault mark, so the faulted count too (R174). -/
theorem faultedCount_restartClear (s : State) : s.restartClear.faultedCount = s.faultedCount := by
  refine faultedCount_congr (fun z => ?_) fun m => ?_
  · rw [zone_restartClear]
    rfl
  · rw [meter_restartClear, MeterSlot.restart]
    split <;> rfl

/-- RESTARTED, and the level flag of the faulted count; the findings queue is empty (R174). -/
theorem restartFlags_restartClear (s : State) : s.restartClear.restartFlags =
    { s.restartClear with attn := { s.attn with latched := 0x20 ||| (if s.faultedCount = 0 then 0 else 0x04) } } := by
  have frame := restartClear_onlyChannels s
  have attn : s.restartClear.attn = s.attn := by rw [frame]; rfl
  have findings : s.restartClear.findings = [] := by rw [frame]; rfl
  have raw : s.restartClear.rawSet = if s.faultedCount = 0 then 0 else 0x04 := by
    rw [State.rawSet, findings, faultedCount_restartClear, if_pos rfl]
    exact BitVec.zero_or
  rw [State.restartFlags, raw, State.modAttn, attn]
  rfl

/-- Settles O53: the taking by whether STARTING is to end, the acting by what each block keeps. -/
theorem restartClearsWorkInFlight : Obligations.RestartClearsWorkInFlight := by
  refine ⟨fun ft s f hf free => ?_, fun s waits => ?_, fun s h restarting hand analysing link pin => ?_⟩
  · have taken := exec_of_free State.restart rfl hf free
    refine ⟨fun mode => ?_, fun mode => ?_⟩
    · rw [taken, State.restart, endStarting_of_ne (show (s.inHand f).mode ≠ .starting from mode)]
      rfl
    · rw [taken, State.restart, endStarting_of_starting (show (s.inHand f).mode = .starting from mode)]
      rfl
  · refine congrArg Host.Outcome.next (if_neg ?_)
    simp only [Bool.and_eq_true, decide_eq_true_eq, Option.isNone_iff_eq_none]
    rintro ⟨⟨restarting, hand⟩, analysing⟩
    rcases waits with waits | waits | waits
    · rw [waits] at restarting
      cases restarting
    · exact waits hand
    · exact waits analysing
  · have acts : exec .restartClear s = .next (s.restartClear.restartFlags.answer .ok []) :=
      congrArg Host.Outcome.next (if_pos (by simp [restarting, hand, analysing]))
    have frame := restartClear_onlyChannels s
    have sameLink : s.restartClear.link = s.link := by rw [frame]; rfl
    rw [State.answer_hand (h := h) .ok [] (by rw [State.restartFlags, State.link_modAttn, sameLink]; exact link)
      (by rw [State.restartFlags, State.link_modAttn, sameLink]; exact pin)] at acts
    refine ⟨_, acts, ?_, fun z => ?_, fun m => ?_, fun x => ?_⟩
    · have idle : ({ hand := .idle, pointer := s.intake.pointer, touched := [], releaseWaiting := none } : Intake) =
          { s.intake with touched := [], releaseWaiting := none } := by rw [← hand]
      rw [restartFlags_restartClear, frame, cleared, idle]
    · rw [State.restartFlags, State.zone_modAttn, zone_restartClear]
      rfl
    · rw [State.restartFlags, State.meter_modAttn, meter_restartClear, MeterSlot.restart]
      exact ⟨fun h => if_pos (by simpa using h), fun h h' => if_neg (by simp [h, h'])⟩
    · rw [State.restartFlags, State.channel_modAttn, channel_restartClear]
      exact ⟨fun mode => if_neg mode, fun mode asserted => by rw [if_pos mode, asserted]; rfl,
        fun mode clear => by rw [if_pos mode, clear]; rfl⟩

end Sys2Proof.Proofs

/-! ## The end of an item -/

namespace Sys2Proof.Proofs

open Sys2Proof Machine Safety Laws

/-! ### The order of its parts (R56, log 6) -/

theorem nodup_eraseDups {α : Type} [DecidableEq α] : ∀ l : List α, l.eraseDups.Nodup
  | [] => by simp
  | a :: l => by
    rw [List.eraseDups_cons, List.nodup_cons, List.mem_eraseDups]
    exact ⟨by simp, nodup_eraseDups _⟩
termination_by l => l.length
decreasing_by exact Nat.lt_succ_of_le (List.length_filter_le _ _)

theorem head?_itemEndOrder {order : List ItemEndPart} {p : ItemEndPart} (h : order.head? = some p) :
    (itemEndOrder order).head? = some p := by
  obtain ⟨rest, rfl⟩ := List.head?_eq_some_iff.mp h
  exact congrArg List.head? List.eraseDups_cons

/-- Every part is taken once: the release somewhere, and beside it the early closes and the commit in one of their two orders,
which is that of the command when one of the two leads it. -/
theorem itemEndOrder_split (order : List ItemEndPart) : ∃ l₁ l₂, itemEndOrder order = l₁ ++ .release :: l₂ ∧
    ((l₁ ++ l₂ = [.earlyClose, .commit] ∧ order.head? ≠ some .commit) ∨
      (l₁ ++ l₂ = [.commit, .earlyClose] ∧ order.head? ≠ some .earlyClose)) := by
  have perm : itemEndOrder order ∈ [ItemEndPart.earlyClose, .commit, .release].permutations' := by
    refine List.mem_permutations'.mpr ((List.perm_ext_iff_of_nodup (nodup_eraseDups _) (by decide)).mpr fun p => ?_)
    rw [List.mem_eraseDups]
    cases p <;> simp
  have listed : [ItemEndPart.earlyClose, .commit, .release].permutations' = [[ItemEndPart.earlyClose, .commit, .release], [.commit, .earlyClose, .release],
      [.commit, .release, .earlyClose], [.earlyClose, .release, .commit], [.release, .earlyClose, .commit],
      [.release, .commit, .earlyClose]] := by decide
  rw [listed] at perm
  have leads : ∀ {l : List ItemEndPart} {p q : ItemEndPart}, itemEndOrder order = l → l.head? = some p → q ≠ p →
      order.head? ≠ some q := fun hl hp hq hc => hq (by
    have := head?_itemEndOrder hc
    rw [hl, hp] at this
    exact (Option.some.inj this).symm)
  simp only [List.mem_cons, List.not_mem_nil, or_false] at perm
  rcases perm with h | h | h | h | h | h
  · exact ⟨[.earlyClose, .commit], [], h, .inl ⟨rfl, leads h rfl (by decide)⟩⟩
  · exact ⟨[.commit, .earlyClose], [], h, .inr ⟨rfl, leads h rfl (by decide)⟩⟩
  · exact ⟨[.commit], [.earlyClose], h, .inr ⟨rfl, leads h rfl (by decide)⟩⟩
  · exact ⟨[.earlyClose], [.commit], h, .inl ⟨rfl, leads h rfl (by decide)⟩⟩
  · exact ⟨[], [.earlyClose, .commit], h, .inl ⟨rfl, leads h rfl (by decide)⟩⟩
  · exact ⟨[], [.commit, .earlyClose], h, .inr ⟨rfl, leads h rfl (by decide)⟩⟩

end Sys2Proof.Proofs

/-! ### Early closes (R94) -/

namespace Sys2Proof.Proofs

open Sys2Proof Machine Safety Laws

/-- The early close test on one zone. -/
def closedEarly (g : Grid) (x : Zone) : Zone :=
  { x with record := x.record.map fun r => if g.closesEarly r then { r with state := .closing } else r }

theorem zone_earlyClose (s : State) (y z : ZoneId) :
    (s.earlyClose y).zone z = if z = y then closedEarly s.grid (s.zone y) else s.zone z :=
  State.zone_modZone ..

/-- A CLOSING record does not close early again. -/
theorem closedEarly_idem (g : Grid) (x : Zone) : closedEarly g (closedEarly g x) = closedEarly g x := by
  have once : ∀ r : NightRecord, g.closesEarly { r with state := .closing } = false := fun r => by
    simp [Grid.closesEarly]
  unfold closedEarly
  cases x.record with
  | none => rfl
  | some r => by_cases early : g.closesEarly r <;> simp [early, once]

theorem foldl_earlyClose_frame (s : State) (zs : List ZoneId) :
    zs.foldl State.earlyClose s = { s with zones := (zs.foldl State.earlyClose s).zones } := by
  induction zs generalizing s with
  | nil => rfl
  | cons z zs ih =>
    rw [List.foldl_cons, ih]
    rfl

theorem zone_foldl_earlyClose (s : State) (zs : List ZoneId) (z : ZoneId) : (zs.foldl State.earlyClose s).zone z =
    if z ∈ zs then closedEarly s.grid (s.zone z) else s.zone z := by
  induction zs generalizing s with
  | nil => rfl
  | cons y ys ih =>
    rw [List.foldl_cons, ih, zone_earlyClose, show (s.earlyClose y).grid = s.grid from rfl]
    by_cases hz : z = y
    · subst hz
      simp [closedEarly_idem]
    · simp [hz]

/-- The early closes go by the zones and the grid. -/
theorem foldl_earlyClose_congr {s t : State} (zones : t.zones = s.zones) (time : t.time = s.time) (zs : List ZoneId) :
    (zs.foldl State.earlyClose t).zones = (zs.foldl State.earlyClose s).zones := by
  refine zones_ext fun z => ?_
  have grid : t.grid = s.grid := congrArg TimeBase.grid time
  rw [zone_foldl_earlyClose, zone_foldl_earlyClose, zone_congr zones, grid]

theorem AllMatch.foldl_earlyClose {s : State} (h : AllMatch s) (zs : List ZoneId) : AllMatch (zs.foldl State.earlyClose s) := by
  intro e
  cases e with
  | zone z =>
    have := h (.zone z)
    simp only [State.entryMatches, zone_foldl_earlyClose] at this ⊢
    split <;> exact this
  | meter m =>
    rw [foldl_earlyClose_frame]
    exact h (.meter m)

theorem earlyCloses_frame (s : State) : s.earlyCloses =
    { s with zones := (s.intake.touched.foldl State.earlyClose s).zones, analyser := s.earlyCloses.analyser } := by
  unfold State.earlyCloses
  dsimp only
  split
  · rw [foldl_earlyClose_frame]
    rfl
  · rw [foldl_earlyClose_frame]

/-! ### The due commit (R29, R56, R159) -/

/-- A commit's application does not read the mode controller. -/
theorem applyCommit_modCtl (s : State) (c : ModeControl) :
    (s.modCtl fun _ => c).applyCommit = s.applyCommit.modCtl fun _ => c := by
  have written : (s.modCtl fun _ => c).writeBindings = s.writeBindings.modCtl fun _ => c := by
    unfold State.writeBindings
    show List.foldl _ _ s.stage.bindings = _
    generalize s.stage.bindings = ps
    induction ps generalizing s with
    | nil => rfl
    | cons p ps ih => exact ih (s.modMeter p.slot (·.apply p.binding))
  unfold State.applyCommit
  rw [written]
  rfl

/-- A pending commit is to be applied at the end of the item. -/
def CommitDue (s : State) : Prop := s.stage.commitPending = true ∧ (s.stage.due = true ∨ s.ctl.leaving ≠ none)

theorem commitDue_iff (s : State) :
    (s.stage.commitPending && (s.stage.due || s.ctl.leaving.isSome)) = true ↔ CommitDue s := by
  simp [CommitDue, Option.isSome_iff_ne_none]

/-- The mode controller after a due commit: the count of a leaving phase (R159, R160). -/
def ctlCounted (s : State) : ModeControl :=
  { s.ctl with leaving := s.ctl.leaving.map fun l => { l with applied := s.stage.bindings.length } }

theorem dueCommit_of_due {s : State} (h : CommitDue s) : s.dueCommit = s.applyCommit.modCtl fun _ => ctlCounted s :=
  (if_pos ((commitDue_iff s).mpr h)).trans (applyCommit_modCtl s (ctlCounted s))

theorem dueCommit_of_not_due {s : State} (h : ¬CommitDue s) : s.dueCommit = s := if_neg fun due => h ((commitDue_iff s).mp due)

theorem dueCommit_frame (s : State) : s.dueCommit =
    { s with ctl := s.dueCommit.ctl, zones := s.dueCommit.zones, meters := s.dueCommit.meters, stage := s.dueCommit.stage } := by
  by_cases h : CommitDue s
  · have only := applyCommit_onlyCommit s
    rw [dueCommit_of_due h]
    generalize s.applyCommit = t at only ⊢
    rw [only]
    rfl
  · rw [dueCommit_of_not_due h]

theorem AllMatch.dueCommit {s : State} (h : AllMatch s) : AllMatch s.dueCommit := by
  by_cases due : CommitDue s
  · rw [dueCommit_of_due due]
    exact (AllMatch.applyCommit h).congr (State.zones_modCtl ..) (State.meters_modCtl ..)
  · rwa [dueCommit_of_not_due due]

/-! ### A commit beside the states of the slots -/

theorem apply_binding (x : MeterSlot) (b : MeterBinding) : (x.apply b).binding = b := by
  unfold MeterSlot.apply
  dsimp only
  split
  · split <;> rfl
  · split
    iterate 3
      split
      · rfl
      · rfl
    all_goals rfl

theorem apply_unbound_iff (x : MeterSlot) (b : MeterBinding) : (x.apply b).state = .unbound ↔ b.source = 0 := by
  have table := tableOf_apply x b
  by_cases unbound : (x.apply b).state = .unbound <;> by_cases source : b.source = 0 <;> simp_all

/-- A pending binding leaves the slot bound to it, or unbound for NONE, whatever the slot's state before (R30). -/
theorem slotKeeps_apply (x y : MeterSlot) (b : MeterBinding) : SlotKeeps (x.apply b) (y.apply b) :=
  ⟨(apply_unbound_iff y b).trans (apply_unbound_iff x b).symm, (apply_binding y b).trans (apply_binding x b).symm⟩

section

variable {s t s' t' : State}

theorem slotKeeps_writeBindings (slots : ∀ m, SlotKeeps (s.meter m) (t.meter m)) (stage : t.stage = s.stage) (m : SlotId) :
    SlotKeeps (s.writeBindings.meter m) (t.writeBindings.meter m) := by
  unfold State.writeBindings
  rw [stage]
  generalize s.stage.bindings = ps
  induction ps generalizing s t with
  | nil => exact slots m
  | cons p ps ih =>
    refine ih (fun k => ?_) stage
    rw [State.meter_modMeter, State.meter_modMeter]
    split
    · exact slotKeeps_apply _ _ _
    · exact slots k

theorem memberSet_of_slots (slots : ∀ m, SlotKeeps (s.meter m) (t.meter m)) (z : ZoneId) : t.memberSet z = s.memberSet z := by
  simp only [State.memberSet, MeterSlot.members, (slots _).bound_eq, (slots _).binding]

theorem rebound_of_slots (slots : ∀ m, SlotKeeps (s.meter m) (t.meter m)) (slots' : ∀ m, SlotKeeps (s'.meter m) (t'.meter m))
    (m : SlotId) : t.rebound t' m = s.rebound s' m := by
  simp only [State.rebound, (slots m).binding, (slots' m).binding]

/-- What a commit does to the zones goes by the bindings and not by the states of the slots (R31). -/
theorem zones_followMembers_of_slots (slots : ∀ m, SlotKeeps (s.meter m) (t.meter m))
    (slots' : ∀ m, SlotKeeps (s'.meter m) (t'.meter m)) (zones : t.zones = s.zones) :
    (t.followMembers t').zones = (s.followMembers s').zones := by
  have record : ∀ z r, t.updatedRecord t' z r = s.updatedRecord s' z r := fun z r => by
    simp only [State.updatedRecord, State.updatedMembers, memberSet_of_slots slots, rebound_of_slots slots slots']
  have changed : ∀ z, t.memberSetChanged t' z = s.memberSetChanged s' z := fun z => by
    simp only [State.memberSetChanged, memberSet_of_slots slots, memberSet_of_slots slots', rebound_of_slots slots slots']
  refine zones_ext fun z => ?_
  simp only [State.followMembers, State.zone_mapZones]
  rw [changed, zone_congr zones, funext (record z)]

theorem zones_applyCommit_of_slots (slots : ∀ m, SlotKeeps (s.meter m) (t.meter m)) (stage : t.stage = s.stage)
    (zones : t.zones = s.zones) : t.applyCommit.zones = s.applyCommit.zones := by
  have written : t.writeBindings.zones = s.writeBindings.zones := by rw [zones_writeBindings, zones_writeBindings, zones]
  simp only [State.applyCommit, State.zones_modStage]
  exact zones_followMembers_of_slots (slotKeeps_writeBindings slots stage) slots written

theorem slotKeeps_applyCommit (slots : ∀ m, SlotKeeps (s.meter m) (t.meter m)) (stage : t.stage = s.stage) (m : SlotId) :
    SlotKeeps (s.applyCommit.meter m) (t.applyCommit.meter m) := by
  rw [meter_congr (meters_applyCommit s), meter_congr (meters_applyCommit t)]
  exact slotKeeps_writeBindings slots stage m

end

end Sys2Proof.Proofs

/-! ### The waiting release (R34, R55), and the parts taken together -/

namespace Sys2Proof.Proofs

open Sys2Proof Machine Safety Laws

/-- State t beside state s when they differ at most in the link, the analyser, the waiting release and the states of slots:
in nothing that the early closes and the commit go by. -/
structure Beside (s t : State) : Prop where
  zones : t.zones = s.zones
  stage : t.stage = s.stage
  ctl : t.ctl = s.ctl
  time : t.time = s.time
  channels : t.channels = s.channels
  touched : t.intake.touched = s.intake.touched
  slots : ∀ m, SlotKeeps (s.meter m) (t.meter m)

section

variable {s t : State}

theorem Beside.refl (s : State) : Beside s s := ⟨rfl, rfl, rfl, rfl, rfl, rfl, fun _ => .refl _⟩

theorem Beside.earlyCloses (h : Beside s t) : Beside s.earlyCloses t.earlyCloses := by
  rw [earlyCloses_frame s, earlyCloses_frame t]
  refine ⟨?_, h.stage, h.ctl, h.time, h.channels, h.touched, h.slots⟩
  simp only [h.touched]
  exact foldl_earlyClose_congr h.zones h.time _

theorem Beside.commitDue (h : Beside s t) : CommitDue t ↔ CommitDue s := by rw [CommitDue, CommitDue, h.stage, h.ctl]

/-- What the application of a commit leaves alone. -/
theorem applyCommit_keeps (s : State) : s.applyCommit.ctl = s.ctl ∧ s.applyCommit.time = s.time ∧
    s.applyCommit.channels = s.channels ∧ s.applyCommit.intake = s.intake ∧ s.applyCommit.link = s.link := by
  rw [applyCommit_onlyCommit s]
  exact ⟨rfl, rfl, rfl, rfl, rfl⟩

theorem Beside.applyCommit (h : Beside s t) : Beside s.applyCommit t.applyCommit := by
  obtain ⟨ctl, time, channels, intake, -⟩ := applyCommit_keeps s
  obtain ⟨ctl', time', channels', intake', -⟩ := applyCommit_keeps t
  exact
    { zones := zones_applyCommit_of_slots h.slots h.stage h.zones
      stage := by rw [applyCommit_stage, applyCommit_stage]
      ctl := by rw [ctl, ctl', h.ctl]
      time := by rw [time, time', h.time]
      channels := by rw [channels, channels', h.channels]
      touched := by rw [intake, intake', h.touched]
      slots := slotKeeps_applyCommit h.slots h.stage }

theorem Beside.modCtl (h : Beside s t) (c : ModeControl) : Beside (s.modCtl fun _ => c) (t.modCtl fun _ => c) :=
  ⟨h.zones, h.stage, rfl, h.time, h.channels, h.touched, h.slots⟩

theorem Beside.dueCommit (h : Beside s t) : Beside s.dueCommit t.dueCommit := by
  by_cases due : CommitDue s
  · have same : ctlCounted t = ctlCounted s := by simp only [ctlCounted, h.ctl, h.stage]
    rw [dueCommit_of_due due, dueCommit_of_due (h.commitDue.mpr due), same]
    exact h.applyCommit.modCtl (ctlCounted s)
  · rwa [dueCommit_of_not_due due, dueCommit_of_not_due fun due' => due (h.commitDue.mp due')]

theorem Beside.answer (h : Beside s t) (st : Status) (body : List Byte) : Beside s (t.answer st body) := by
  rw [State.answer_eq]
  exact ⟨h.zones, h.stage, h.ctl, h.time, h.channels, h.touched, h.slots⟩

theorem beside_releaseMeter (s : State) (m : SlotId) : Beside s (s.releaseMeter m) := by
  unfold State.releaseMeter
  split
  next doubtful =>
    refine Beside.answer (s := s) (t := s.modMeter m _) ⟨rfl, rfl, rfl, rfl, rfl, rfl, fun k => ?_⟩ _ _
    rw [State.meter_modMeter]
    split
    next same =>
      subst same
      exact ⟨by simp [doubtful], rfl⟩
    next => exact .refl _
  next => exact (Beside.refl s).answer _ _

theorem beside_dueRelease (s : State) : Beside s s.dueRelease := by
  unfold State.dueRelease
  split
  next m _ =>
    obtain ⟨zones, stage, ctl, time, channels, touched, slots⟩ :=
      beside_releaseMeter (s.modIntake fun i => { i with releaseWaiting := none }) m
    exact ⟨zones, stage, ctl, time, channels, touched, slots⟩
  next => exact .refl s

/-! #### The release itself -/

theorem dueRelease_of_none (h : s.intake.releaseWaiting = none) : s.dueRelease = s := by
  unfold State.dueRelease
  rw [h]

/-- The release of a DOUBTFUL slot, and of any other (R34), while its request is worked on. -/
theorem dueRelease_of_doubtful {m : SlotId} {h : InHand} (waits : s.intake.releaseWaiting = some m)
    (hand : s.link.hand = some h) (pin : s.link.resetLow = false) (doubtful : (s.meter m).state = .doubtful) :
    s.dueRelease = replied { s.putMeter m { s.meter m with state := .awaiting, lastPoint := none, doubt := 0 } with
      intake := { s.intake with releaseWaiting := none } } h.frame .ok [] := by
  unfold State.dueRelease
  rw [waits]
  exact (if_pos doubtful).trans (State.answer_hand (s := (s.modIntake _).modMeter m _) (h := h) _ _ hand pin)

theorem dueRelease_of_sound {m : SlotId} {h : InHand} (waits : s.intake.releaseWaiting = some m)
    (hand : s.link.hand = some h) (pin : s.link.resetLow = false) (sound : (s.meter m).state ≠ .doubtful) :
    s.dueRelease = replied { s with intake := { s.intake with releaseWaiting := none } } h.frame .wrongState (itemOnly 0) := by
  unfold State.dueRelease
  rw [waits]
  exact (if_neg sound).trans (State.answer_hand (s := s.modIntake _) (h := h) _ _ hand pin)

theorem AllMatch.dueRelease (h : AllMatch s) : AllMatch s.dueRelease := by
  have answer : ∀ {t : State} {st body}, AllMatch t → AllMatch (t.answer st body) := fun ht => by
    rw [State.answer_eq]
    exact ht
  unfold State.dueRelease
  split
  next m _ =>
    have freed : AllMatch (s.modIntake fun i => { i with releaseWaiting := none }) := h
    unfold State.releaseMeter
    split
    · exact answer (freed.modMeter m fun x hx => hx)
    · exact answer freed
  next => exact h

end

end Sys2Proof.Proofs

/-! ### All parts of an item's end -/

namespace Sys2Proof.Proofs

open Sys2Proof Machine Safety Laws

/-- The parts of an item's end, one after another. -/
def partsDone (parts : List ItemEndPart) (s : State) : State := parts.foldl State.itemEndPart s

section

variable {s t : State} {parts : List ItemEndPart}

/-- The early closes and the commit, in the one order or the other. -/
def closedAndCommitted (closesFirst : Bool) (s : State) : State :=
  if closesFirst then s.earlyCloses.dueCommit else s.dueCommit.earlyCloses

/-- What the early closes and the commit leave alone. -/
theorem partsDone_keeps (quiet : .release ∉ parts) : (partsDone parts s).intake = s.intake ∧
    (partsDone parts s).link = s.link ∧ (partsDone parts s).channels = s.channels ∧ (partsDone parts s).time = s.time := by
  induction parts generalizing s with
  | nil => exact ⟨rfl, rfl, rfl, rfl⟩
  | cons p parts ih =>
    obtain ⟨intake, link, channels, time⟩ := ih (s := s.itemEndPart p) fun h => quiet (List.mem_cons_of_mem _ h)
    have part : (s.itemEndPart p).intake = s.intake ∧ (s.itemEndPart p).link = s.link ∧
        (s.itemEndPart p).channels = s.channels ∧ (s.itemEndPart p).time = s.time := by
      cases p with
      | earlyClose => rw [State.itemEndPart, earlyCloses_frame]; exact ⟨rfl, rfl, rfl, rfl⟩
      | commit => rw [State.itemEndPart, dueCommit_frame]; exact ⟨rfl, rfl, rfl, rfl⟩
      | release => exact absurd List.mem_cons_self quiet
    obtain ⟨intake', link', channels', time'⟩ := part
    exact ⟨intake.trans intake', link.trans link', channels.trans channels', time.trans time'⟩

theorem Beside.partsDone (h : Beside s t) (quiet : .release ∉ parts) : Beside (partsDone parts s) (partsDone parts t) := by
  induction parts generalizing s t with
  | nil => exact h
  | cons p parts ih =>
    refine ih (s := s.itemEndPart p) (t := t.itemEndPart p) ?_ fun h => quiet (List.mem_cons_of_mem _ h)
    cases p with
    | earlyClose => exact h.earlyCloses
    | commit => exact h.dueCommit
    | release => exact absurd List.mem_cons_self quiet

theorem commitDue_earlyCloses (s : State) : CommitDue s.earlyCloses ↔ CommitDue s := by
  rw [CommitDue, CommitDue, earlyCloses_frame]

/-- With no commit due, the early closes and the commit leave the meters alone, and make none due. -/
theorem partsDone_meters (due : ¬CommitDue s) (quiet : .release ∉ parts) :
    (partsDone parts s).meters = s.meters ∧ ¬CommitDue (partsDone parts s) := by
  induction parts generalizing s with
  | nil => exact ⟨rfl, due⟩
  | cons p parts ih =>
    have rest : .release ∉ parts := fun h => quiet (List.mem_cons_of_mem _ h)
    cases p with
    | earlyClose =>
      obtain ⟨meters, still⟩ := ih (s := s.earlyCloses) (mt (commitDue_earlyCloses s).mp due) rest
      exact ⟨meters.trans (by rw [earlyCloses_frame]), still⟩
    | commit =>
      obtain ⟨meters, still⟩ := ih (s := s.dueCommit) (by rwa [dueCommit_of_not_due due]) rest
      exact ⟨meters.trans (by rw [dueCommit_of_not_due due]), still⟩
    | release => exact absurd List.mem_cons_self quiet

theorem AllMatch.partsDone (h : AllMatch s) (parts : List ItemEndPart) : AllMatch (partsDone parts s) := by
  induction parts generalizing s with
  | nil => exact h
  | cons p parts ih =>
    refine ih (s := s.itemEndPart p) ?_
    cases p with
    | earlyClose =>
      have closed := h.foldl_earlyClose s.intake.touched
      rw [State.itemEndPart, earlyCloses_frame]
      exact closed.congr rfl (by rw [foldl_earlyClose_frame])
    | commit => exact h.dueCommit
    | release => exact h.dueRelease

/-- The release stands somewhere between the early closes and the commit, which have their order from the command (log 6). -/
theorem partsDone_split (order : List ItemEndPart) (s : State) : ∃ (l₁ l₂ : List ItemEndPart) (closesFirst : Bool),
    .release ∉ l₁ ∧ .release ∉ l₂ ∧
    partsDone (itemEndOrder order) s = partsDone l₂ (partsDone l₁ s).dueRelease ∧
    partsDone l₂ (partsDone l₁ s) = closedAndCommitted closesFirst s ∧
    (order.head? = some .earlyClose → closesFirst = true) ∧ (order.head? = some .commit → closesFirst = false) := by
  obtain ⟨l₁, l₂, split, both⟩ := itemEndOrder_split order
  have quiet : .release ∉ l₁ ++ l₂ := by rcases both with ⟨same, -⟩ | ⟨same, -⟩ <;> simp [same]
  have done : partsDone (itemEndOrder order) s = partsDone l₂ (partsDone l₁ s).dueRelease := by
    simp only [partsDone, split, List.foldl_append, List.foldl_cons, State.itemEndPart]
  have joined : partsDone l₂ (partsDone l₁ s) = partsDone (l₁ ++ l₂) s := by simp only [partsDone, List.foldl_append]
  rw [List.mem_append, not_or] at quiet
  rcases both with ⟨same, head⟩ | ⟨same, head⟩
  · exact ⟨l₁, l₂, true, quiet.1, quiet.2, done, by rw [joined, same]; rfl, fun _ => rfl, fun h => absurd h head⟩
  · exact ⟨l₁, l₂, false, quiet.1, quiet.2, done, by rw [joined, same]; rfl, fun h => absurd h head, fun _ => rfl⟩

/-! #### The early closes and the commit -/

theorem closedAndCommitted_of_not_due (due : ¬CommitDue s) (closesFirst : Bool) :
    closedAndCommitted closesFirst s = s.earlyCloses := by
  cases closesFirst
  · exact congrArg State.earlyCloses (dueCommit_of_not_due due)
  · exact dueCommit_of_not_due (mt (commitDue_earlyCloses s).mp due)

/-- The zones after the early closes and a due commit. -/
def committedZones (closesFirst : Bool) (s : State) : Vector Zone 48 :=
  if closesFirst then (s.intake.touched.foldl State.earlyClose s).applyCommit.zones
  else (s.intake.touched.foldl State.earlyClose s.applyCommit).zones

theorem dueCommit_fields (due : CommitDue s) :
    s.dueCommit.stage = { bindings := [], commitPending := false, due := false } ∧ s.dueCommit.ctl = ctlCounted s ∧
      s.dueCommit.zones = s.applyCommit.zones ∧ s.dueCommit.meters = s.applyCommit.meters := by
  rw [dueCommit_of_due due]
  exact ⟨applyCommit_stage s, State.ctl_modCtl .., State.zones_modCtl .., State.meters_modCtl ..⟩

theorem closedAndCommitted_of_due (due : CommitDue s) (closesFirst : Bool) :
    (closedAndCommitted closesFirst s).stage = { bindings := [], commitPending := false, due := false } ∧
      (closedAndCommitted closesFirst s).ctl = ctlCounted s ∧
      (closedAndCommitted closesFirst s).zones = committedZones closesFirst s ∧
      (closedAndCommitted closesFirst s).meters = s.applyCommit.meters := by
  cases closesFirst with
  | false =>
    obtain ⟨stage, ctl, zones, meters⟩ := dueCommit_fields due
    have frame := dueCommit_frame s
    have time : s.dueCommit.time = s.applyCommit.time := by
      obtain ⟨-, time, -⟩ := applyCommit_keeps s
      rw [frame, time]
    have touched : s.dueCommit.intake.touched = s.intake.touched := by rw [frame]
    show s.dueCommit.earlyCloses.stage = _ ∧ s.dueCommit.earlyCloses.ctl = _ ∧ s.dueCommit.earlyCloses.zones = _ ∧
      s.dueCommit.earlyCloses.meters = _
    rw [earlyCloses_frame, touched]
    exact ⟨stage, ctl, foldl_earlyClose_congr zones time _, meters⟩
  | true =>
    obtain ⟨stage, ctl, zones, meters⟩ := dueCommit_fields ((commitDue_earlyCloses s).mpr due)
    have frame := earlyCloses_frame s
    have closed := foldl_earlyClose_frame s s.intake.touched
    have sameMeters : s.earlyCloses.meters = s.meters := by rw [frame]
    have sameStage : s.earlyCloses.stage = s.stage := by rw [frame]
    refine ⟨stage, ctl.trans ?_, zones.trans (zones_applyCommit_of_slots (fun m => ?_) ?_ ?_), meters.trans ?_⟩
    · rw [ctlCounted, frame]
      rfl
    · rw [frame, closed]
      exact .refl _
    · rw [sameStage, closed]
    · rw [frame]
    · rw [meters_applyCommit, meters_applyCommit, writeBindings_congr sameMeters sameStage]

/-! #### The parts together -/

/-- What the whole end of an item leaves of the tables, with no commit due and with one. -/
theorem partsDone_tables (order : List ItemEndPart) (s : State) :
    (partsDone (itemEndOrder order) s).channels = s.channels ∧ (partsDone (itemEndOrder order) s).time = s.time ∧
    (¬CommitDue s → (partsDone (itemEndOrder order) s).stage = s.stage ∧ (partsDone (itemEndOrder order) s).ctl = s.ctl ∧
      (partsDone (itemEndOrder order) s).zones = (s.intake.touched.foldl State.earlyClose s).zones) ∧
    (CommitDue s → (partsDone (itemEndOrder order) s).stage = { bindings := [], commitPending := false, due := false } ∧
      (partsDone (itemEndOrder order) s).ctl = ctlCounted s ∧
      ∃ closesFirst, (partsDone (itemEndOrder order) s).zones = committedZones closesFirst s ∧
        (order.head? = some .earlyClose → closesFirst = true) ∧ (order.head? = some .commit → closesFirst = false)) := by
  obtain ⟨l₁, l₂, closesFirst, quiet₁, quiet₂, done, both, first, last⟩ := partsDone_split order s
  have beside : Beside (closedAndCommitted closesFirst s) (partsDone (itemEndOrder order) s) := by
    rw [done, ← both]
    exact (beside_dueRelease _).partsDone quiet₂
  obtain ⟨-, -, channels₁, time₁⟩ := partsDone_keeps (s := s) quiet₁
  obtain ⟨-, -, channels₂, time₂⟩ := partsDone_keeps (s := partsDone l₁ s) quiet₂
  rw [both] at channels₂ time₂
  refine ⟨beside.channels.trans (channels₂.trans channels₁), beside.time.trans (time₂.trans time₁), fun due => ?_, fun due => ?_⟩
  · rw [beside.stage, beside.ctl, beside.zones, closedAndCommitted_of_not_due due, earlyCloses_frame]
    exact ⟨rfl, rfl, rfl⟩
  · obtain ⟨stage, ctl, zones, -⟩ := closedAndCommitted_of_due due closesFirst
    exact ⟨beside.stage.trans stage, beside.ctl.trans ctl, closesFirst, beside.zones.trans zones, first, last⟩

/-- With no release waiting, the link and the meters are those of the early closes and the commit. -/
theorem partsDone_of_no_release (order : List ItemEndPart) (waits : s.intake.releaseWaiting = none) :
    (partsDone (itemEndOrder order) s).intake = s.intake ∧ (partsDone (itemEndOrder order) s).link = s.link ∧
      (CommitDue s → (partsDone (itemEndOrder order) s).meters = s.applyCommit.meters) := by
  obtain ⟨l₁, l₂, closesFirst, quiet₁, quiet₂, done, both, -, -⟩ := partsDone_split order s
  obtain ⟨intake₁, link₁, -⟩ := partsDone_keeps (s := s) quiet₁
  obtain ⟨intake₂, link₂, -⟩ := partsDone_keeps (s := partsDone l₁ s) quiet₂
  rw [dueRelease_of_none (by rw [intake₁]; exact waits)] at done
  rw [done]
  refine ⟨intake₂.trans intake₁, link₂.trans link₁, fun due => ?_⟩
  obtain ⟨-, -, -, meters⟩ := closedAndCommitted_of_due due closesFirst
  rw [both, meters]

/-- A waiting release is answered (R34), and with no commit due it finds the slot as it was. -/
theorem partsDone_of_release (order : List ItemEndPart) {m : SlotId} {h : InHand} (waits : s.intake.releaseWaiting = some m)
    (hand : s.link.hand = some h) (pin : s.link.resetLow = false) :
    (partsDone (itemEndOrder order) s).intake = { s.intake with releaseWaiting := none } ∧
    ∃ r, (partsDone (itemEndOrder order) s).link.hand = some { h with phase := .sending r } ∧
      (¬CommitDue s →
        ((s.meter m).state = .doubtful → r.status = .ok ∧ r.body = [] ∧ (partsDone (itemEndOrder order) s).meter m =
          { s.meter m with state := .awaiting, lastPoint := none, doubt := 0 }) ∧
        ((s.meter m).state ≠ .doubtful → r.status = .wrongState ∧ r.body = itemOnly 0 ∧
          (partsDone (itemEndOrder order) s).meter m = s.meter m)) := by
  obtain ⟨l₁, l₂, closesFirst, quiet₁, quiet₂, done, both, -, -⟩ := partsDone_split order s
  obtain ⟨intake₁, link₁, -⟩ := partsDone_keeps (s := s) quiet₁
  obtain ⟨intake₂, link₂, -⟩ := partsDone_keeps (s := (partsDone l₁ s).dueRelease) quiet₂
  have waits₁ : (partsDone l₁ s).intake.releaseWaiting = some m := by rw [intake₁]; exact waits
  have hand₁ : (partsDone l₁ s).link.hand = some h := by rw [link₁]; exact hand
  have pin₁ : (partsDone l₁ s).link.resetLow = false := by rw [link₁]; exact pin
  have unchanged : ¬CommitDue s → (partsDone l₁ s).meter m = s.meter m ∧
      (partsDone l₂ (partsDone l₁ s).dueRelease).meter m = (partsDone l₁ s).dueRelease.meter m := fun due => by
    obtain ⟨meters₁, due₁⟩ := partsDone_meters due quiet₁
    obtain ⟨meters₂, -⟩ := partsDone_meters (mt (beside_dueRelease _).commitDue.mp due₁) quiet₂
    exact ⟨meter_congr meters₁ m, meter_congr meters₂ m⟩
  rw [done, intake₂, link₂]
  by_cases doubtful : ((partsDone l₁ s).meter m).state = .doubtful
  · have released := dueRelease_of_doubtful waits₁ hand₁ pin₁ doubtful
    refine ⟨by rw [released, ← intake₁]; rfl, _, by rw [released]; rfl, fun due => ?_⟩
    obtain ⟨before, after⟩ := unchanged due
    rw [before] at doubtful
    refine ⟨fun _ => ⟨rfl, rfl, ?_⟩, fun sound => absurd doubtful sound⟩
    rw [after, released, ← before]
    exact (State.meter_putMeter ..).trans (if_pos rfl)
  · have released := dueRelease_of_sound waits₁ hand₁ pin₁ doubtful
    refine ⟨by rw [released, ← intake₁]; rfl, _, by rw [released]; rfl, fun due => ?_⟩
    obtain ⟨before, after⟩ := unchanged due
    rw [before] at doubtful
    refine ⟨fun h => absurd h doubtful, fun _ => ⟨rfl, rfl, ?_⟩⟩
    rw [after, released, ← before]
    rfl

end

end Sys2Proof.Proofs

/-! ### The next item of the ring (R54) -/

namespace Sys2Proof.Proofs

open Sys2Proof Machine Safety Laws

/-! #### The search for a record's slot (R61) -/

/-- A slot's verification does not reach the zones (R148, R149). -/
theorem zones_verify_meter (s : State) (m : SlotId) : (s.verify (.meter m)).zones = s.zones := by
  have marked : (s.setMark (.meter m)).zones = s.zones := by
    simp only [State.setMark]
    split <;> rfl
  have offered : ∀ (t : State) (f : Finding), f.subject = .meter m → (t.offer f).zones = t.zones := fun t f hf => by
    simp only [State.offer, hf]
    split
    · split <;> rfl
    · rfl
  unfold State.verify
  split
  · rfl
  · have offers : s.newFault (.meter m) = ((s.setMark (.meter m)).outOfService (.meter m)).offer (entryFaultFinding (.meter m)) :=
      if_neg (by simp [State.analyses])
    rw [offers, offered _ _ rfl]
    exact marked

theorem zones_findClaimant (s : State) (ms : List SlotId) : (s.findClaimant ms).1.zones = s.zones := by
  induction ms generalizing s with
  | nil => rfl
  | cons m ms ih =>
    simp only [State.findClaimant]
    split
    · exact (ih _).trans (zones_verify_meter s m)
    · exact zones_verify_meter s m

section

variable {s : State} (matching : AllMatch s)
include matching

/-- When every entry matches, the search changes nothing. -/
theorem findClaimant_of_match (ms : List SlotId) : (s.findClaimant ms).1 = s := by
  induction ms with
  | nil => rfl
  | cons m ms ih =>
    simp only [State.findClaimant, verify_of_settled (.inl (matching (.meter m)))]
    split
    · exact ih
    · rfl

theorem findClaimant_cons_of_match {m : SlotId} (clear : (s.meter m).mark = false) (others : List SlotId) :
    s.findClaimant (m :: others) = (s, some m) := by
  simp only [State.findClaimant, verify_of_settled (.inl (matching (.meter m)))]
  exact if_neg (by simp [clear])

end

/-- The nights that a slot read now brings with it (R55, R71). -/
theorem readAs_readSlot (s : State) (m : SlotId) : ReadAs s m (s.readSlot m) := by
  refine ⟨rfl, rfl, fun z n => ?_⟩
  simp only [State.readSlot, State.acceptingNights, List.mem_filterMap]
  constructor
  · rintro ⟨q, hq, found⟩
    split at found
    next r record =>
      split at found
      next accepting =>
        cases found
        exact ⟨⟨q, hq, rfl⟩, r, record, rfl, by simpa [NightRecord.accepting] using accepting⟩
      next => cases found
    next => cases found
  · rintro ⟨⟨q, hq, rfl⟩, r, record, rfl, accepting⟩
    refine ⟨q, hq, ?_⟩
    rw [record]
    exact if_pos (by simpa [NightRecord.accepting] using accepting)

/-! #### The ring -/

/-- The intake with no item in hand. -/
def idled (s : State) : State := s.modIntake fun i => { i with hand := .idle, touched := [] }

theorem takeRecord_keeps (s : State) (x : ChanId) (r : Capture) :
    (s.takeRecord x r).zones = s.zones ∧ (s.takeRecord x r).stage = s.stage ∧ (s.takeRecord x r).ctl = s.ctl ∧
      (s.takeRecord x r).link = s.link ∧ (s.takeRecord x r).intake.releaseWaiting = s.intake.releaseWaiting ∧
      (s.takeRecord x r).intake.touched = [] := by
  unfold State.takeRecord
  dsimp only
  have zones := zones_findClaimant (s.modChannel x fun c => { c with list := c.list.tail })
    ((s.modChannel x fun c => { c with list := c.list.tail }).claimants x)
  have only := findClaimant_onlyFault (s.modChannel x fun c => { c with list := c.list.tail })
    ((s.modChannel x fun c => { c with list := c.list.tail }).claimants x)
  generalize State.findClaimant _ _ = found at zones only ⊢
  obtain ⟨t, slot⟩ := found
  dsimp only at zones only ⊢
  rw [only]
  exact ⟨zones, rfl, rfl, rfl, rfl, rfl⟩

/-- What the next item is, and that no more than it is taken. -/
theorem takeNext_cases (s : State) : s.takeNext = idled s ∨ (∃ x r, s.takeNext = (idled s).takeRecord x r) ∨
    s.takeNext = (idled s).modIntake fun i => { i with hand := .link, pointer := 16 } := by
  unfold State.takeNext
  dsimp only
  split
  · split
    · exact .inl rfl
    · split
      · split
        · exact .inr (.inl ⟨_, _, rfl⟩)
        · exact .inl rfl
      · exact .inr (.inr rfl)
  · exact .inl rfl

theorem takeNext_keeps (s : State) :
    s.takeNext.zones = s.zones ∧ s.takeNext.stage = s.stage ∧ s.takeNext.ctl = s.ctl ∧ s.takeNext.link = s.link ∧
      s.takeNext.intake.releaseWaiting = s.intake.releaseWaiting ∧ s.takeNext.intake.touched = [] := by
  rcases takeNext_cases s with h | ⟨x, r, h⟩ | h
  · rw [h]
    exact ⟨rfl, rfl, rfl, rfl, rfl, rfl⟩
  · rw [h]
    exact takeRecord_keeps (idled s) x r
  · rw [h]
    exact ⟨rfl, rfl, rfl, rfl, rfl, rfl⟩

/-- The record taken, when every entry matches: nothing is faulted. -/
theorem takeRecord_of_match {s : State} (matching : AllMatch s) (x : ChanId) (r : Capture) :
    (s.takeRecord x r).meters = s.meters ∧ ((∀ m, (s.meter m).mark = false) →
      (s.claimants x = [] → (s.takeRecord x r).intake.hand = .chosen x r none) ∧
      ∀ m others, s.claimants x = m :: others → (s.takeRecord x r).intake.hand = .chosen x r (some (s.readSlot m))) := by
  have matching' : AllMatch (s.modChannel x fun c => { c with list := c.list.tail }) := matching
  have same : (s.modChannel x fun c => { c with list := c.list.tail }).claimants x = s.claimants x := rfl
  refine ⟨?_, fun clear => ⟨fun none_ => ?_, fun m others first => ?_⟩⟩
  · simp only [State.takeRecord, State.meters_modIntake, findClaimant_of_match matching', State.meters_modChannel]
  · rw [State.takeRecord, same, none_]
    rfl
  · rw [State.takeRecord, same, first, findClaimant_cons_of_match matching' (clear m)]
    rfl

theorem takeNext_meters_of_match {s : State} (matching : AllMatch s) : s.takeNext.meters = s.meters := by
  rcases takeNext_cases s with h | ⟨x, r, h⟩ | h
  · rw [h]
    rfl
  · rw [h, (takeRecord_of_match (s := idled s) matching x r).1]
    rfl
  · rw [h]
    rfl

theorem takeNext_of_closed {s : State} (h : s.ctl.leaving ≠ none ∨ s.ctl.restarting = true) : s.takeNext = idled s := by
  refine if_neg ?_
  rw [State.intakeOpen, Bool.and_eq_true, Bool.not_eq_true', Option.isNone_iff_eq_none, not_and_or, Bool.not_eq_false]
  exact h

section

variable {s : State} (running : s.ctl.leaving = none) (working : s.ctl.restarting = false)

theorem find?_finRange {n : Nat} {p : Fin n → Bool} {d : Fin n} (hd : p d = true) (before : ∀ e, e < d → p e = false) :
    (List.finRange n).find? p = some d := by
  obtain ⟨front, back, whole⟩ := List.append_of_mem (List.mem_finRange d)
  have sorted := (List.sortedLT_finRange n).pairwise
  rw [whole, List.pairwise_append] at sorted
  obtain ⟨-, -, less⟩ := sorted
  refine List.find?_eq_some_iff_append.mpr ⟨hd, front, back, whole, fun e he => ?_⟩
  rw [before e (less e he d List.mem_cons_self)]
  rfl

/-- The first requester of the ring with waiting work (R54). -/
theorem find?_ringFrom {d : Fin 17} (work : s.hasWork (s.intake.pointer + 1 + d) = true)
    (before : ∀ e, e < d → s.hasWork (s.intake.pointer + 1 + e) = false) :
    (ringFrom s.intake.pointer).find? s.hasWork = some (s.intake.pointer + 1 + d) := by
  rw [ringFrom, List.find?_map, find?_finRange (p := s.hasWork ∘ fun i => s.intake.pointer + 1 + i) work before]
  rfl

include running working

theorem intakeOpen_of_running : s.intakeOpen = true := by simp [State.intakeOpen, running, working]

theorem takeNext_of_no_work (idle : ∀ q, s.hasWork q = false) : s.takeNext = idled s := by
  have none_ : (ringFrom s.intake.pointer).find? s.hasWork = none := List.find?_eq_none.mpr fun q _ => by simp [idle q]
  rw [State.takeNext, if_pos (intakeOpen_of_running running working), none_]
  rfl

theorem takeNext_of_link {d : Fin 17} (work : s.hasWork (s.intake.pointer + 1 + d) = true)
    (before : ∀ e, e < d → s.hasWork (s.intake.pointer + 1 + e) = false) (link : s.intake.pointer + 1 + d = 16) :
    s.takeNext = (idled s).modIntake fun i => { i with hand := .link, pointer := 16 } := by
  rw [State.takeNext, if_pos (intakeOpen_of_running running working), find?_ringFrom work before, link]
  rfl

theorem takeNext_of_channel {d : Fin 17} (work : s.hasWork (s.intake.pointer + 1 + d) = true)
    (before : ∀ e, e < d → s.hasWork (s.intake.pointer + 1 + e) = false) {x : ChanId}
    (channel : s.intake.pointer + 1 + d = x.castSucc) {r : Capture} {rest : List Capture} (list : (s.channel x).list = r :: rest) :
    s.takeNext = (idled s).takeRecord x r := by
  rw [State.takeNext, if_pos (intakeOpen_of_running running working), find?_ringFrom work before, channel]
  dsimp only
  rw [dif_pos (show x.castSucc.val < 16 from x.isLt), show (s.channel ⟨x.castSucc.val, x.isLt⟩).list = r :: rest from list]
  rfl

end

/-- The record leaves its list, and the pointer moves to its channel (R54). -/
theorem takeRecord_taken (s : State) (x : ChanId) (r : Capture) :
    (∃ slot, (s.takeRecord x r).intake.hand = .chosen x r slot) ∧ (s.takeRecord x r).intake.pointer = x.castSucc ∧
      ((s.takeRecord x r).channel x).list = (s.channel x).list.tail := by
  have channels : (s.takeRecord x r).channels = (s.modChannel x fun c => { c with list := c.list.tail }).channels := by
    simp only [State.takeRecord, State.channels_modIntake]
    rw [findClaimant_onlyFault]
  refine ⟨⟨_, rfl⟩, rfl, ?_⟩
  simp only [State.channel, channels]
  exact congrArg Channel.list ((State.channel_modChannel ..).trans (if_pos rfl))

end Sys2Proof.Proofs

/-! ### The end of an item (O25) -/

namespace Sys2Proof.Proofs

open Sys2Proof Machine Safety Laws

/-- The reply of a READING or READING-BATCH whose work is done (R60). -/
theorem replyReading_of_ended {s : State} {j : ReadingJob} {st : Status} {item : Nat} {h : InHand}
    (ended : j.ended = some (st, item)) (hand : s.link.hand = some h) (pin : s.link.resetLow = false) :
    s.replyReading j = replied s h.frame st
      ((if st = .ok then [] else itemOnly (BitVec.ofNat 8 item)) ++ s.readingBytes j.slot j.outcomes) := by
  unfold State.replyReading
  rw [ended]
  cases st with
  | ok => exact State.answer_hand (h := h) _ _ hand pin
  | _ => exact State.answer_hand (h := h) _ _ hand pin

theorem itemEnd_of_served {s : State} {x : ChanId} {k : Option SlotId} (served : s.intake.hand = .served x k)
    (order : List ItemEndPart) : s.itemEnd order = (partsDone (itemEndOrder order) s).takeNext := by
  unfold State.itemEnd
  rw [served]
  rfl

theorem itemEnd_of_reading {s : State} {j : ReadingJob} (reading : s.intake.hand = .reading j) (ended : j.ended ≠ none)
    (order : List ItemEndPart) :
    s.itemEnd order = (partsDone (itemEndOrder order) (s.replyReading j)).takeNext := by
  unfold State.itemEnd
  rw [reading]
  exact if_pos (Option.isSome_iff_ne_none.mpr ended)

/-- A request that its owner has in hand, or that is being answered, is no waiting work of the intake (R53). -/
theorem hasReading_of_busy {l : Link} {h : InHand} (hand : l.hand = some h) (busy : h.phase ≠ .waiting) :
    l.hasReading = false := by
  have none_ : l.waitingFrame = none := by
    unfold Link.waitingFrame
    rw [hand]
    exact if_neg busy
  unfold Link.hasReading
  rw [none_]

/-- Waiting work is that of the lists and of the link (R53). -/
theorem hasWork_congr {s t : State} (channels : t.channels = s.channels) (link : t.link.hasReading = s.link.hasReading)
    (q : Fin 17) : t.hasWork q = s.hasWork q := by
  simp only [State.hasWork, State.channel, channels, link]

theorem hasWork_channel {s : State} {x : ChanId} (h : s.hasWork x.castSucc = true) :
    ∃ r rest, (s.channel x).list = r :: rest := by
  have below : x.castSucc.val < 16 := x.isLt
  rw [State.hasWork, dif_pos below] at h
  exact List.exists_cons_of_ne_nil fun empty => by
    rw [show (s.channel ⟨x.castSucc.val, below⟩).list = [] from empty] at h
    cases h

theorem zones_foldl_earlyClose_link (s : State) (l : Link) (zs : List ZoneId) :
    (zs.foldl State.earlyClose (withLink l s)).zones = (zs.foldl State.earlyClose s).zones :=
  foldl_earlyClose_congr (s := s) (t := withLink l s) rfl rfl zs

theorem touched_link (s : State) (l : Link) : (withLink l s).intake.touched = s.intake.touched := rfl

theorem meters_applyCommit_link (s : State) (l : Link) : (withLink l s).applyCommit.meters = s.applyCommit.meters := by
  have meters : ∀ t : State, (withLink l t).meters = t.meters := fun _ => rfl
  rw [applyCommit_link, meters]

theorem committedZones_link (closesFirst : Bool) (s : State) (l : Link) :
    committedZones closesFirst (withLink l s) = committedZones closesFirst s := by
  unfold committedZones
  rw [touched_link, applyCommit_link, zones_foldl_earlyClose_link]
  refine if_congr .rfl (zones_applyCommit_of_slots (fun m => ?_) ?_ (zones_foldl_earlyClose_link s l _)) rfl
  · rw [foldl_earlyClose_frame s, foldl_earlyClose_frame (withLink l s)]
    exact .refl _
  · rw [foldl_earlyClose_frame s, foldl_earlyClose_frame (withLink l s)]
    rfl

/-- State p beside state s when the item in hand has ended, before the next one is taken. -/
structure ItemEnded (order : List ItemEndPart) (s p : State) : Prop where
  intake : p.intake = { s.intake with releaseWaiting := none }
  hasReading : p.link.hasReading = s.link.hasReading
  channels : p.channels = s.channels
  still : ¬CommitDue s → p.stage = s.stage ∧ p.ctl = s.ctl ∧ p.zones = (s.intake.touched.foldl State.earlyClose s).zones
  committed : CommitDue s → p.stage = { bindings := [], commitPending := false, due := false } ∧ p.ctl = ctlCounted s ∧
    ∃ closesFirst, p.zones = committedZones closesFirst s ∧
      (order.head? = some .earlyClose → closesFirst = true) ∧ (order.head? = some .commit → closesFirst = false)
  matching : AllMatch s → AllMatch p
  meters : CommitDue s → s.intake.releaseWaiting = none → p.meters = s.applyCommit.meters

section

variable {s : State} (order : List ItemEndPart)

/-- The parts go by the link in nothing but the replies. -/
theorem itemEnded_of_no_release (l : Link) (hasReading : l.hasReading = s.link.hasReading)
    (waits : s.intake.releaseWaiting = none) :
    ItemEnded order s (partsDone (itemEndOrder order) (withLink l s)) ∧
      (partsDone (itemEndOrder order) (withLink l s)).link = l := by
  obtain ⟨channels, -, still, committed⟩ := partsDone_tables order (withLink l s)
  obtain ⟨intake, link, meters⟩ := partsDone_of_no_release (s := withLink l s) order waits
  refine ⟨⟨intake.trans ?_, by rw [link]; exact hasReading, channels, fun due => ?_, fun due => ?_, fun h => ?_,
    fun due _ => ?_⟩, link⟩
  · show s.intake = _
    rw [← waits]
  · obtain ⟨stage, ctl, zones⟩ := still due
    exact ⟨stage, ctl, zones.trans (zones_foldl_earlyClose_link s l _)⟩
  · obtain ⟨stage, ctl, closesFirst, zones, heads⟩ := committed due
    exact ⟨stage, ctl, closesFirst, zones.trans (committedZones_link closesFirst s l), heads⟩
  · exact AllMatch.partsDone (s := withLink l s) h _
  · exact (meters due).trans (meters_applyCommit_link s l)

theorem itemEnded_of_release {m : SlotId} {h : InHand} (waits : s.intake.releaseWaiting = some m)
    (hand : s.link.hand = some h) (working : h.phase = .working) (pin : s.link.resetLow = false) :
    ItemEnded order s (partsDone (itemEndOrder order) s) := by
  obtain ⟨channels, -, still, committed⟩ := partsDone_tables order s
  obtain ⟨intake, r, sending, -⟩ := partsDone_of_release order waits hand pin
  refine ⟨intake, ?_, channels, still, committed, fun h => h.partsDone _, fun _ none_ => ?_⟩
  · rw [hasReading_of_busy sending nofun, hasReading_of_busy hand (by rw [working]; nofun)]
  · rw [waits] at none_
    cases none_

/-- The ends of an item that INTAKE_ITEM_END finds: a record served, with no release waiting or a release that is worked on; or
a READING or READING-BATCH whose work is done. -/
def Ending (s : State) : Prop :=
  (∃ x k, s.intake.hand = .served x k ∧
    (s.intake.releaseWaiting = none ∨ ∃ h, s.link.hand = some h ∧ h.phase = .working ∧ s.link.resetLow = false)) ∨
  (∃ j h, s.intake.hand = .reading j ∧ j.ended ≠ none ∧ s.link.hand = some h ∧ h.phase = .working ∧
    s.link.resetLow = false ∧ s.intake.releaseWaiting = none)

/-- The parts are taken on s, or on s with the reply of its READING; what the link and the slot of a release show after them. -/
theorem itemEnd_of_ending (ending : Ending s) : ∃ p, s.itemEnd order = p.takeNext ∧ ItemEnded order s p ∧
    (∀ x k, s.intake.hand = .served x k → s.intake.releaseWaiting = none → p.link = s.link) ∧
    (∀ j st item, s.intake.hand = .reading j → j.ended = some (st, item) → ∃ h r, p.link.hand = some h ∧
      h.phase = .sending r ∧ r.status = st ∧
      r.body = (if st = .ok then [] else itemOnly (BitVec.ofNat 8 item)) ++ s.readingBytes j.slot j.outcomes) ∧
    (∀ m, s.intake.releaseWaiting = some m → ¬CommitDue s → ∃ h r, p.link.hand = some h ∧ h.phase = .sending r ∧
      ((s.meter m).state = .doubtful → r.status = .ok ∧ r.body = [] ∧
        p.meter m = { s.meter m with state := .awaiting, lastPoint := none, doubt := 0 }) ∧
      ((s.meter m).state ≠ .doubtful → r.status = .wrongState ∧ r.body = itemOnly 0 ∧ p.meter m = s.meter m)) := by
  rcases ending with ⟨x, k, served, release⟩ | ⟨j, h, reading, done, hand, working, pin, waits⟩
  · have not_reading : ∀ {j}, s.intake.hand ≠ .reading j := fun h => by
      rw [served] at h
      cases h
    refine ⟨_, itemEnd_of_served served order, ?_⟩
    cases waits : s.intake.releaseWaiting with
    | none =>
      obtain ⟨ended, link⟩ := itemEnded_of_no_release order s.link rfl waits
      exact ⟨ended, fun _ _ _ _ => link, fun _ _ _ h => absurd h not_reading, nofun⟩
    | some m =>
      obtain ⟨h, hand, working, pin⟩ := release.resolve_left (by simp [waits])
      refine ⟨itemEnded_of_release order waits hand working pin, (fun _ _ _ => nofun), fun _ _ _ h => absurd h not_reading, ?_⟩
      intro m' same due
      obtain rfl := Option.some.inj same
      obtain ⟨-, r, sending, told⟩ := partsDone_of_release order waits hand pin
      exact ⟨_, r, sending, rfl, told due⟩
  · refine ⟨_, itemEnd_of_reading reading done order, ?_⟩
    obtain ⟨⟨st, item⟩, ended⟩ := Option.ne_none_iff_exists'.mp done
    rw [replyReading_of_ended ended hand pin]
    obtain ⟨kept, link⟩ := itemEnded_of_no_release (s := s) order
      (replied s h.frame st ((if st = .ok then [] else itemOnly (BitVec.ofNat 8 item)) ++ s.readingBytes j.slot j.outcomes)).link
      ((hasReading_of_busy (h := ⟨h.frame, .sending _⟩) rfl nofun).trans (hasReading_of_busy hand (by rw [working]; nofun)).symm) waits
    refine ⟨kept, fun x k served => ?_, fun j' st' item' reading' ended' => ?_, fun m release => ?_⟩
    · rw [reading] at served
      cases served
    · rw [reading] at reading'
      cases reading'
      rw [ended] at ended'
      cases ended'
      exact ⟨_, _, congrArg Link.hand link, rfl, rfl, rfl⟩
    · rw [waits] at release
      cases release

end

/-- A zone is tested for an early close when the item touched it, and then once (R56). -/
theorem zone_touched (s : State) (zs : List ZoneId) (z : ZoneId) :
    (z ∈ zs → (zs.foldl State.earlyClose s).zone z = (s.earlyClose z).zone z) ∧
      (z ∉ zs → (zs.foldl State.earlyClose s).zone z = s.zone z) := by
  rw [zone_foldl_earlyClose, zone_earlyClose, if_pos rfl]
  exact ⟨fun h => if_pos h, fun h => if_neg h⟩

/-- A channel's record that the intake takes next, with what its slot was read as (R54, R61, R62). -/
theorem takeRecord_reads {s : State} {x : ChanId} {r : Capture} : ∃ slot, (s.takeRecord x r).intake.hand = .chosen x r slot ∧
    (AllMatch s → (∀ m, ((s.takeRecord x r).meter m).mark = false) →
      ((s.takeRecord x r).claimants x = [] → slot = none) ∧
      ∀ m others, (s.takeRecord x r).claimants x = m :: others → ∃ tk, slot = some tk ∧ ReadAs (s.takeRecord x r) m tk) := by
  obtain ⟨⟨slot, hand⟩, -⟩ := takeRecord_taken s x r
  refine ⟨slot, hand, fun matching clear => ?_⟩
  obtain ⟨meters, found⟩ := takeRecord_of_match matching x r
  obtain ⟨zones, -⟩ := takeRecord_keeps s x r
  have claimants : (s.takeRecord x r).claimants x = s.claimants x := by
    simp only [State.claimants, meter_congr meters]
  obtain ⟨none_, some_⟩ := found fun m => by rw [← meter_congr meters]; exact clear m
  rw [claimants]
  refine ⟨fun empty => ?_, fun m others first => ?_⟩
  · rw [none_ empty] at hand
    cases hand
    rfl
  · rw [some_ m others first] at hand
    cases hand
    obtain ⟨slot, state, nights⟩ := readAs_readSlot s m
    refine ⟨_, rfl, slot, by rw [state, meter_congr meters], fun z n => ?_⟩
    rw [nights, meter_congr meters, zone_congr zones]

/-- Settles O25: the parts of the end (`itemEnd_of_ending`), then the ring. -/
theorem itemEndRepliesAndTakesNext : Obligations.ItemEndRepliesAndTakesNext := by
  intro order s due hdue ending
  obtain ⟨p, ends, ended, served, reading, released⟩ := itemEnd_of_ending order ending
  obtain ⟨intake, hasReading, channels, still, committed, matching, meters⟩ := ended
  obtain ⟨zones', stage', ctl', link', waiting', touched'⟩ := takeNext_keeps p
  have due_iff : due ↔ CommitDue s := hdue
  have sameMeters : AllMatch s → p.takeNext.meters = p.meters := fun h => takeNext_meters_of_match (matching h)
  have pointer : p.intake.pointer = s.intake.pointer := by rw [intake]
  have ctl : (p.ctl.leaving = none ↔ s.ctl.leaving = none) ∧ p.ctl.restarting = s.ctl.restarting := by
    by_cases now : CommitDue s
    · obtain ⟨-, ctl, -⟩ := committed now
      rw [ctl]
      exact ⟨Option.map_eq_none_iff, rfl⟩
    · obtain ⟨-, ctl, -⟩ := still now
      rw [ctl]
      exact ⟨.rfl, rfl⟩
  obtain ⟨leaving, restarting⟩ := ctl
  have work := hasWork_congr channels hasReading
  refine ⟨p.takeNext, congrArg Host.Outcome.next ends, by rw [waiting', intake], touched', ?_, ?_, ?_, ?_, ?_, ?_, ?_⟩
  · exact fun x k h waits => link'.trans (served x k h waits)
  · intro j st item h done
    rw [link']
    exact reading j st item h done
  · intro m waits calm
    obtain ⟨h, r, sending, phase, doubtful, sound⟩ := released m waits (mt due_iff.mpr calm)
    rw [link']
    refine ⟨h, r, sending, phase, fun state => ?_, fun state => ?_⟩
    · obtain ⟨status, body, freed⟩ := doubtful state
      exact ⟨status, body, fun h => (meter_congr (sameMeters h) m).trans freed⟩
    · obtain ⟨status, body, same⟩ := sound state
      exact ⟨status, body, fun h => (meter_congr (sameMeters h) m).trans same⟩
  · intro calm
    obtain ⟨stage, -, zones⟩ := still (mt due_iff.mpr calm)
    refine ⟨stage'.trans stage, fun z => ?_⟩
    rw [zone_congr (zones'.trans zones)]
    exact zone_touched s s.intake.touched z
  · intro now
    obtain ⟨stage, ctl, closesFirst, zones, first, last⟩ := committed (due_iff.mp now)
    refine ⟨stage'.trans stage, ctl'.trans ctl, fun h waits => (sameMeters h).trans (meters (due_iff.mp now) waits), ?_, ?_, ?_⟩
    all_goals rw [zones', zones]
    · cases closesFirst
      · exact .inr rfl
      · exact .inl rfl
    · intro h
      rw [first h]
      rfl
    · intro h
      rw [last h]
      rfl
  · intro closed
    rw [takeNext_of_closed (by rwa [ne_eq, leaving, restarting])]
    exact ⟨rfl, pointer⟩
  · intro running working
    have running' := leaving.mpr running
    have working' : p.ctl.restarting = false := restarting.trans working
    refine ⟨fun idle => ?_, fun d found before => ?_⟩
    · rw [takeNext_of_no_work running' working' fun q => (work q).trans (idle q)]
      exact ⟨rfl, pointer⟩
    · have found' : p.hasWork (p.intake.pointer + 1 + d) = true := by rw [pointer, work]; exact found
      have before' : ∀ e, e < d → p.hasWork (p.intake.pointer + 1 + e) = false := fun e he => by
        rw [pointer, work]
        exact before e he
      rw [← pointer] at found ⊢
      rcases Fin.eq_castSucc_or_eq_last (p.intake.pointer + 1 + d) with ⟨x, channel⟩ | last
      · obtain ⟨r, rest, list⟩ := hasWork_channel (channel ▸ found')
        have taken := takeNext_of_channel running' working' found' before' channel list
        obtain ⟨-, pointer', left⟩ := takeRecord_taken (idled p) x r
        obtain ⟨slot, hand, reads⟩ := takeRecord_reads (s := idled p) (x := x) (r := r)
        rw [taken, channel]
        refine ⟨pointer', fun last => absurd last (Fin.castSucc_lt_last x).ne, fun x' r' rest' same list' => ?_⟩
        obtain rfl := Fin.castSucc_injective _ same
        obtain ⟨rfl, rfl⟩ : r = r' ∧ rest = rest' := by
          have : (p.channel x).list = r' :: rest' := by simpa only [State.channel, channels] using list'
          rw [list] at this
          exact List.cons.inj this
        exact ⟨slot, hand, left.trans (congrArg List.tail list), fun h => reads (matching h)⟩
      · rw [takeNext_of_link running' working' found' before' last, last]
        exact ⟨rfl, fun _ => rfl, fun x _ _ same => absurd same.symm (Fin.castSucc_lt_last x).ne⟩

end Sys2Proof.Proofs

/-! ## Capture lists (R45 to R47) -/

namespace Sys2Proof.Machine

open Sys2Proof

theorem postTo_of_room {list : List Capture} (room : list.length < 4) (r : Capture) : postTo list r = list ++ [r] :=
  if_pos room

section

variable {old : List Capture}

/-- A full list's newest PULSE or BOUNDARY record is replaced (R46). -/
theorem postTo_replaces (full : old.length = 3) {newest : Capture} (plain : newest.isResume = false) (r : Capture) :
    postTo (old ++ [newest]) r = old ++ [r] := by
  cases newest with
  | pulse | boundary => simp [postTo, captureMax, full]
  | resume => cases plain

/-- A full list's newest RESUME record stays, and a PULSE or BOUNDARY record is dropped (R46). -/
theorem postTo_drops (full : old.length = 3) {newest r : Capture} (resume : newest.isResume = true)
    (plain : r.isResume = false) : postTo (old ++ [newest]) r = old ++ [newest] := by
  cases newest with
  | pulse | boundary => cases resume
  | resume =>
    cases r with
    | pulse | boundary => simp [postTo, captureMax, full]
    | resume => cases plain

/-- A full list's newest RESUME record merges with a RESUME record (R47). -/
theorem postTo_merges (full : old.length = 3) (g g' t t' : Nat) (cg cg' c c' : W32) :
    postTo (old ++ [.resume g cg t c]) (.resume g' cg' t' c') = old ++ [.resume g cg t' c'] := by
  simp [postTo, captureMax, full]

end

/-! ## One channel written, and CAPTURE-LOST (R48) -/

/-- CAPTURE-LOST is raised. -/
def Attention.captureLost (a : Attention) : Attention := { a with latched := a.latched ||| 0x10 }

theorem Attention.captureLost_idem (a : Attention) : a.captureLost.captureLost = a.captureLost := by
  simp only [captureLost, BitVec.or_assoc, BitVec.or_self]

namespace State

variable (s : State)

theorem putChannel_putChannel (x : ChanId) (c d : Channel) : (s.putChannel x c).putChannel x d = s.putChannel x d := by
  simp only [State.putChannel, Vector.set_set]

theorem putChannel_self (x : ChanId) : s.putChannel x (s.channel x) = s := by
  simp only [State.putChannel, State.channel, Vector.set_getElem_self]

theorem modChannel_putChannel (x : ChanId) (c : Channel) (f : Channel → Channel) :
    (s.putChannel x c).modChannel x f = s.putChannel x (f c) := by
  rw [State.modChannel, channel_putChannel, if_pos rfl, putChannel_putChannel]

theorem modChannel_eq (x : ChanId) (f : Channel → Channel) : s.modChannel x f = s.putChannel x (f (s.channel x)) := rfl

theorem modChannel_modChannel (x : ChanId) (f g : Channel → Channel) :
    (s.modChannel x f).modChannel x g = s.modChannel x fun c => g (f c) := modChannel_putChannel s x _ g

/-- Channel x is written; `lost` says whether one of its records met a full list (R48). -/
def putCaptured (x : ChanId) (c : Channel) (lost : Bool) : State :=
  { s.putChannel x c with attn := if lost then s.attn.captureLost else s.attn }

variable (x : ChanId) (c d : Channel) (lost : Bool)

@[simp] theorem channel_putCaptured (y : ChanId) :
    (s.putCaptured x c lost).channel y = if y = x then c else s.channel y := channel_putChannel s x y c

@[simp] theorem mode_putCaptured : (s.putCaptured x c lost).mode = s.mode := rfl

@[simp] theorem now_putCaptured : (s.putCaptured x c lost).now = s.now := rfl

@[simp] theorem attn_putCaptured : (s.putCaptured x c lost).attn = if lost then s.attn.captureLost else s.attn := rfl

theorem putCaptured_false : s.putCaptured x c false = s.putChannel x c := rfl

theorem putCaptured_putChannel : (s.putChannel x c).putCaptured x d lost = s.putCaptured x d lost := by
  rw [putCaptured, putChannel_putChannel]
  rfl

theorem modChannel_putCaptured (f : Channel → Channel) :
    (s.putCaptured x c lost).modChannel x f = s.putCaptured x (f c) lost := by
  have channel : (s.putCaptured x c lost).channel x = c := by rw [channel_putCaptured, if_pos rfl]
  rw [modChannel_eq, channel]
  exact congrArg (fun t : State => { t with attn := if lost then s.attn.captureLost else s.attn })
    (s.putChannel_putChannel x c (f c))

/-- A record due in RUN (R43, R48). -/
theorem post_of_run {s : State} (run : s.mode = .run) (x : ChanId) (r : Capture) :
    s.post x r = s.putCaptured x ((s.channel x).post r) (decide (4 ≤ (s.channel x).list.length)) := by
  rw [State.post, if_pos run]
  by_cases full : 4 ≤ (s.channel x).list.length
  · simp only [captureMax, putCaptured, full, decide_true, if_true]
    rfl
  · simp only [captureMax, putCaptured, full, decide_false, Bool.false_eq_true, if_false]
    rfl

/-- Outside RUN no record is posted (R43). -/
theorem post_of_not_run {s : State} (mode : s.mode ≠ .run) (x : ChanId) (r : Capture) : s.post x r = s := if_neg mode

theorem post_modChannel_of_run {s : State} (run : s.mode = .run) (x : ChanId) (f : Channel → Channel) (r : Capture) :
    (s.modChannel x f).post x r =
      s.putCaptured x ((f (s.channel x)).post r) (decide (4 ≤ (f (s.channel x)).list.length)) := by
  rw [post_of_run (s := s.modChannel x f) run, channel_modChannel, if_pos rfl, modChannel_eq, putCaptured_putChannel]

end State

end Sys2Proof.Machine

namespace Sys2Proof.Proofs

open Sys2Proof Machine

/-- Settles O12: by the length of the list and the kind of its newest record. -/
theorem fullCaptureListRules : Obligations.FullCaptureListRules :=
  ⟨fun _ r room => postTo_of_room room r, fun _ _ r full plain => postTo_replaces full plain r,
    fun _ _ _ full resume plain => postTo_drops full resume plain,
    fun _ g g' t t' cg cg' c c' full => postTo_merges full g g' t t' cg cg' c c'⟩

end Sys2Proof.Proofs

/-! ## Pin changes (R37, R38) -/

namespace Sys2Proof.Machine

open Sys2Proof

namespace State

variable {s : State} {x : ChanId}

/-- A level the pin already has is no change (log 2). -/
theorem pinChange_of_same {high : Bool} (same : (s.channel x).pinHigh = high) (micros : Nat) :
    s.pinChange x high micros = s := if_pos same

theorem pinChange_of_off {high : Bool} (moves : (s.channel x).pinHigh ≠ high) (off : (s.channel x).mode = .off)
    (micros : Nat) : s.pinChange x high micros = s.modChannel x fun c => { c with pinHigh := high } := by
  simp only [State.pinChange, if_neg moves, off]

/-- In STATUS mode the 2 s of conditioning begin again (R38). -/
theorem pinChange_of_status {high : Bool} (moves : (s.channel x).pinHigh ≠ high) (status : (s.channel x).mode = .status)
    (micros : Nat) :
    s.pinChange x high micros = s.modChannel x fun c => { c with pinHigh := high, conditioning := true } := by
  simp only [State.pinChange, if_neg moves, status, modChannel_modChannel]

/-- A change of a COUNT channel's pin is a pulse when it falls as the first edge, or 20 ms after the counted one (R37). -/
theorem pinChange_of_count {high : Bool} (moves : (s.channel x).pinHigh ≠ high) (count : (s.channel x).mode = .count)
    (micros : Nat) : s.pinChange x high micros =
      if high = false ∧ ((s.channel x).edgeCounted = false ∨ 20000 ≤ micros)
      then (s.modChannel x fun c => { c with pinHigh := high }).pulse x
      else s.modChannel x fun c => { c with pinHigh := high } := by
  simp only [State.pinChange, if_neg moves, count, Bool.and_eq_true, Bool.or_eq_true, Bool.not_eq_true', decide_eq_true_eq]
  rfl

end State

/-! ## Pulses (R37, R43) -/

/-- The channel with one more pulse in its tally, its divider phase as before (R37). -/
def Channel.tallied (c : Channel) : Channel := { c with tally := c.tally + 1, edgeCounted := true }

namespace State

variable {s : State} {x : ChanId}

/-- A gated channel counts no phase (R37). -/
theorem pulse_of_gated (gated : (s.channel x).state = .gated ∨ (s.channel x).state = .releaseWait) :
    s.pulse x = s.modChannel x Channel.tallied := by
  rcases gated with h | h <;>
    simp only [State.pulse, channel_modChannel, if_true, h] <;> rfl

/-- Below the divider the phase advances (R37). -/
theorem pulse_of_phase (counts : (s.channel x).state = .counting ∨ (s.channel x).state = .gatePending)
    (below : (s.channel x).phase + 1 < (s.channel x).divider) :
    s.pulse x = s.modChannel x fun c => { c.tallied with phase := c.phase + 1 } := by
  rcases counts with h | h <;>
    simp only [State.pulse, channel_modChannel, if_true, h, if_neg (not_le.mpr below), modChannel_modChannel] <;> rfl

/-- At the divider the phase returns to 0 and a PULSE record is due (R37, R43). -/
theorem pulse_of_record (counts : (s.channel x).state = .counting ∨ (s.channel x).state = .gatePending)
    (reaches : (s.channel x).divider ≤ (s.channel x).phase + 1) :
    s.pulse x = (s.modChannel x fun c => { c.tallied with phase := 0 }).post x
      (.pulse s.now ((s.channel x).tally + 1)) := by
  rcases counts with h | h <;>
    simp only [State.pulse, channel_modChannel, if_true, h, if_pos reaches, modChannel_modChannel] <;> rfl

end State

end Sys2Proof.Machine

namespace Sys2Proof.Proofs

open Sys2Proof Machine

/-- Settles O10: by the pin's level before, then by the channel's mode. -/
theorem pinChangeWithoutPulse : Obligations.PinChangeWithoutPulse := by
  intro x high micros s
  refine ⟨fun same => ?_, fun moves off => ?_, fun moves status => ?_, fun moves count uncounted => ?_⟩
  · exact congrArg Host.Outcome.next (State.pinChange_of_same same micros)
  · exact congrArg Host.Outcome.next (State.pinChange_of_off moves off micros)
  · exact congrArg Host.Outcome.next (State.pinChange_of_status moves status micros)
  · have noEdge : ¬(high = false ∧ ((s.channel x).edgeCounted = false ∨ 20000 ≤ micros)) := by
      rintro ⟨rfl, first | late⟩
      · obtain ⟨counted, -⟩ := uncounted.resolve_left (by decide)
        exact Bool.false_ne_true (first.symm.trans counted)
      · obtain ⟨-, early⟩ := uncounted.resolve_left (by decide)
        exact not_le.mpr early late
    exact congrArg Host.Outcome.next ((State.pinChange_of_count moves count micros).trans (if_neg noEdge))

/-- The falling edge of a COUNT channel that counts (R37). -/
theorem exec_fallingEdge {s : State} {x : ChanId} (high : (s.channel x).pinHigh = true) (count : (s.channel x).mode = .count)
    {micros : Nat} (counts : (s.channel x).edgeCounted = false ∨ 20000 ≤ micros) :
    exec (.pinChange x false micros) s = .next ((s.modChannel x fun c => { c with pinHigh := false }).pulse x) :=
  congrArg Host.Outcome.next ((State.pinChange_of_count (by simp [high]) count micros).trans (if_pos ⟨rfl, counts⟩))

/-- Settles O11: by the channel's state, its divider phase and the mode. -/
theorem countedEdgeIsTallied : Obligations.CountedEdgeIsTallied := by
  rintro x micros s c counted rfl high count counts rfl
  have falls := exec_fallingEdge high count counts
  have low : (s.modChannel x fun c => { c with pinHigh := false }).channel x = { s.channel x with pinHigh := false } := by
    rw [State.channel_modChannel, if_pos rfl]
  refine ⟨fun gated => ?_, fun state below => ?_, fun state reaches mode => ?_, fun state reaches run => ?_⟩
  · rw [falls, State.pulse_of_gated (by rw [low]; exact gated), State.modChannel_modChannel]
    rfl
  · rw [falls, State.pulse_of_phase (by rw [low]; exact state) (by rw [low]; exact below), State.modChannel_modChannel]
    rfl
  · rw [falls, State.pulse_of_record (by rw [low]; exact state) (by rw [low]; exact reaches), low,
      State.post_of_not_run (by exact mode), State.modChannel_modChannel]
    rfl
  · rw [falls, State.pulse_of_record (by rw [low]; exact state) (by rw [low]; exact reaches), low,
      State.modChannel_modChannel, State.post_modChannel_of_run run]
    simp only [State.putCaptured, decide_eq_true_eq]
    rfl

end Sys2Proof.Proofs

/-! ## What the change of a channel's sources does to it (R39 to R42) -/

namespace Sys2Proof.Machine

open Sys2Proof Sys2Proof.Proofs

namespace Channel

variable (c : Channel)

/-- The channel once it has resumed: in RUN with the RESUME record of its gate record posted (R42, R44). -/
def resumed (mode : Mode) (now : Nat) : Channel :=
  let posted := match c.gateRecord with
    | some (g, cg) => if mode = Mode.run then c.post (.resume g cg now c.tally) else c
    | none => c
  { posted with gateRecord := none, phase := 0, state := .counting }

/-- The RESUME record meets a full list (R48). -/
def resumeLoses (mode : Mode) : Bool := decide (c.gateRecord ≠ none ∧ mode = .run ∧ 4 ≤ c.list.length)

variable {c} in
theorem resumed_of_not_run {mode : Mode} (h : mode ≠ .run) (now : Nat) :
    c.resumed mode now = { c with gateRecord := none, phase := 0, state := .counting } := by
  unfold resumed
  cases c.gateRecord with
  | none => rfl
  | some p => simp only [if_neg h]

variable {c} in
theorem resumed_of_run {g : Nat} {cg : W32} (h : c.gateRecord = some (g, cg)) (now : Nat) : c.resumed .run now =
    { c with gateRecord := none, phase := 0, state := .counting, list := postTo c.list (.resume g cg now c.tally)
             overflow := c.overflow || decide (4 ≤ c.list.length) } := by
  simp only [resumed, h, if_true]
  rfl

/-- The channel once its sources have cleared (R41, R42). -/
def sourcesCleared (mode : Mode) (now : Nat) : Channel :=
  match c.state with
  | .gatePending => { c with state := .counting }
  | .gated => if c.manualRestart then { c with state := .releaseWait } else c.resumed mode now
  | .off | .status | .counting | .releaseWait => c

/-- The channel once its sources have gone from `before` to `after` (R39). -/
def edge (mode : Mode) (now : Nat) (before after : Bool) : Channel :=
  if c.mode = .count then
    if !before && after then c.sourcesAssert now
    else if before && !after then c.sourcesCleared mode now
    else c
  else c

/-- The change of the sources posts a RESUME record that meets a full list (R42, R48). -/
def edgeLoses (mode : Mode) (before after : Bool) : Bool :=
  decide (c.mode = .count ∧ before = true ∧ after = false ∧ c.state = .gated ∧ c.manualRestart = false) &&
    c.resumeLoses mode

theorem edge_same (mode : Mode) (now : Nat) (level : Bool) : c.edge mode now level level = c := by
  cases level <;> exact ite_self _

theorem edgeLoses_same (mode : Mode) (level : Bool) : c.edgeLoses mode level level = false := by
  cases level <;> simp [edgeLoses]

variable {c}

theorem edge_of_not_count (h : c.mode ≠ .count) (mode : Mode) (now : Nat) (before after : Bool) :
    c.edge mode now before after = c := if_neg h

theorem edgeLoses_of_not_count (h : c.mode ≠ .count) (mode : Mode) (before after : Bool) :
    c.edgeLoses mode before after = false := by simp [edgeLoses, h]

theorem resumeLoses_of_not_run {mode : Mode} (h : mode ≠ .run) : c.resumeLoses mode = false :=
  decide_eq_false fun ⟨_, run, _⟩ => h run

theorem edgeLoses_of_not_run {mode : Mode} (h : mode ≠ .run) (before after : Bool) : c.edgeLoses mode before after = false := by
  rw [edgeLoses, resumeLoses_of_not_run h, Bool.and_false]

theorem edge_assert (h : c.mode = .count) (mode : Mode) (now : Nat) : c.edge mode now false true = c.sourcesAssert now :=
  if_pos h

theorem edge_clear (h : c.mode = .count) (mode : Mode) (now : Nat) : c.edge mode now true false = c.sourcesCleared mode now :=
  if_pos h

variable (c)

theorem sameGate_resumed (mode : Mode) (now : Nat) : SameGate c (c.resumed mode now) := by
  unfold resumed
  split
  · split
    · exact ⟨rfl, rfl, rfl, rfl⟩
    · exact ⟨rfl, rfl, rfl, rfl⟩
  · exact ⟨rfl, rfl, rfl, rfl⟩

theorem sameGate_sourcesAssert (now : Nat) : SameGate c (c.sourcesAssert now) := by
  unfold sourcesAssert
  split
  · split
    · exact ⟨rfl, rfl, rfl, rfl⟩
    · exact ⟨rfl, rfl, rfl, rfl⟩
  all_goals exact ⟨rfl, rfl, rfl, rfl⟩

theorem sameGate_sourcesCleared (mode : Mode) (now : Nat) : SameGate c (c.sourcesCleared mode now) := by
  unfold sourcesCleared
  split
  · exact ⟨rfl, rfl, rfl, rfl⟩
  · split
    · exact ⟨rfl, rfl, rfl, rfl⟩
    · exact sameGate_resumed c mode now
  all_goals exact ⟨rfl, rfl, rfl, rfl⟩

theorem sameGate_edge (mode : Mode) (now : Nat) (before after : Bool) : SameGate c (c.edge mode now before after) := by
  unfold edge
  split
  · split
    · exact sameGate_sourcesAssert c now
    · split
      · exact sameGate_sourcesCleared c mode now
      · exact ⟨rfl, rfl, rfl, rfl⟩
  · exact ⟨rfl, rfl, rfl, rfl⟩

end Channel

namespace State

variable (s : State)

theorem putCaptured_self (x : ChanId) : s.putCaptured x (s.channel x) false = s := by
  rw [putCaptured_false, putChannel_self]

theorem resume_eq (x : ChanId) :
    s.resume x = s.putCaptured x ((s.channel x).resumed s.mode s.now) ((s.channel x).resumeLoses s.mode) := by
  unfold State.resume Channel.resumed
  dsimp only
  cases gate : (s.channel x).gateRecord with
  | none =>
    have keeps : (s.channel x).resumeLoses s.mode = false := by simp [Channel.resumeLoses, gate]
    rw [keeps]
    rfl
  | some p =>
    dsimp only
    by_cases run : s.mode = .run
    · have loses : (s.channel x).resumeLoses s.mode = decide (4 ≤ (s.channel x).list.length) := by
        simp [Channel.resumeLoses, gate, run]
      rw [post_of_run run, modChannel_putCaptured, loses, if_pos run]
    · rw [post_of_not_run run, Channel.resumeLoses_of_not_run run, if_neg run]
      rfl

theorem sourcesClear_eq (x : ChanId) : s.sourcesClear x =
    s.putCaptured x ((s.channel x).sourcesCleared s.mode s.now)
      (decide ((s.channel x).state = .gated ∧ (s.channel x).manualRestart = false) && (s.channel x).resumeLoses s.mode) := by
  unfold State.sourcesClear Channel.sourcesCleared
  cases state : (s.channel x).state with
  | gatePending => rfl
  | gated =>
    dsimp only
    by_cases manual : (s.channel x).manualRestart = true
    · have waits : decide (ChanState.gated = .gated ∧ (s.channel x).manualRestart = false) = false := by simp [manual]
      rw [if_pos manual, if_pos manual, waits]
      rfl
    · have resumes : decide (ChanState.gated = .gated ∧ (s.channel x).manualRestart = false) = true := by simp [manual]
      rw [if_neg manual, if_neg manual, resumes, resume_eq, Bool.true_and]
  | off | status | counting | releaseWait => exact (putCaptured_self s x).symm

/-- A change of the sources of channel x writes that channel alone, and may raise CAPTURE-LOST. -/
theorem gateEdge_eq (x : ChanId) (before : Bool) : s.gateEdge x before =
    s.putCaptured x ((s.channel x).edge s.mode s.now before (s.gateAsserted x))
      ((s.channel x).edgeLoses s.mode before (s.gateAsserted x)) := by
  unfold State.gateEdge
  by_cases count : (s.channel x).mode = .count
  · rw [if_pos count]
    cases before <;> cases s.gateAsserted x
    · rw [Channel.edge_same, Channel.edgeLoses_same, putCaptured_self]
      rfl
    · rw [Channel.edge_assert count]
      simp [Channel.edgeLoses, putCaptured_false, modChannel_eq]
    · rw [Channel.edge_clear count]
      simp [Channel.edgeLoses, count, sourcesClear_eq]
    · rw [Channel.edge_same, Channel.edgeLoses_same, putCaptured_self]
      rfl
  · rw [if_neg count, Channel.edge_of_not_count count, Channel.edgeLoses_of_not_count count, putCaptured_self]

/-! ### A change that reaches several channels -/

/-- What decides a channel's sources is not changed by the gates of others. -/
theorem sameGate_gateEdge (x : ChanId) (before : Bool) (y : ChanId) :
    SameGate (s.channel y) ((s.gateEdge x before).channel y) := by
  rw [gateEdge_eq, channel_putCaptured]
  split
  next same => exact same ▸ Channel.sameGate_edge _ _ _ _ _
  next => exact ⟨rfl, rfl, rfl, rfl⟩

/-- Changes of the sources of several channels, each channel by its own. -/
theorem channel_foldl_gateEdge (s : State) (before : ChanId → Bool) {xs : List ChanId} (nodup : xs.Nodup) (y : ChanId) :
    (xs.foldl (fun t x => t.gateEdge x (before x)) s).channel y =
      if y ∈ xs then (s.channel y).edge s.mode s.now (before y) (s.gateAsserted y) else s.channel y := by
  induction xs generalizing s with
  | nil => simp
  | cons x xs ih =>
    obtain ⟨fresh, nodup⟩ := List.nodup_cons.mp nodup
    rw [List.foldl_cons, ih _ nodup, gateAsserted_congr (sameGate_gateEdge s x (before x)), gateEdge_eq]
    simp only [channel_putCaptured, mode_putCaptured, now_putCaptured]
    by_cases same : y = x
    · subst same
      simp [fresh]
    · simp [same]

/-- Changes of the sources of several channels raise CAPTURE-LOST when one of them does. -/
theorem attn_foldl_gateEdge (s : State) (before : ChanId → Bool) {xs : List ChanId} (nodup : xs.Nodup) :
    (xs.foldl (fun t x => t.gateEdge x (before x)) s).attn =
      if xs.any fun y => (s.channel y).edgeLoses s.mode (before y) (s.gateAsserted y) then s.attn.captureLost else s.attn := by
  induction xs generalizing s with
  | nil => rfl
  | cons x xs ih =>
    obtain ⟨fresh, nodup⟩ := List.nodup_cons.mp nodup
    have rest : (xs.any fun y => ((s.gateEdge x (before x)).channel y).edgeLoses (s.gateEdge x (before x)).mode (before y)
          ((s.gateEdge x (before x)).gateAsserted y)) =
        xs.any fun y => (s.channel y).edgeLoses s.mode (before y) (s.gateAsserted y) := by
      rw [Bool.eq_iff_iff, List.any_eq_true, List.any_eq_true]
      refine exists_congr fun y => and_congr_right fun hy => ?_
      have apart : y ≠ x := fun same => fresh (same ▸ hy)
      rw [gateAsserted_congr (sameGate_gateEdge s x (before x)), gateEdge_eq]
      simp only [channel_putCaptured, mode_putCaptured, if_neg apart]
    rw [List.foldl_cons, ih _ nodup, rest, List.any_cons, gateEdge_eq, attn_putCaptured]
    cases (s.channel x).edgeLoses s.mode (before x) (s.gateAsserted x) with
    | false => rfl
    | true => simp [Attention.captureLost_idem]

theorem nodup_others (cause : ChanId) : ((List.finRange 16).filter (· != cause)).Nodup :=
  (List.nodup_finRange 16).filter _

/-- A change of channel `cause` reaches each other channel by the change of its own sources (R38, R39). -/
theorem channel_gateEdges (old : State) (cause y : ChanId) : (s.gateEdges old cause).channel y =
    if y = cause then s.channel y
    else (s.channel y).edge s.mode s.now (old.gateAsserted y) (s.gateAsserted y) := by
  refine (channel_foldl_gateEdge s old.gateAsserted (nodup_others cause) y).trans ?_
  simp

theorem attn_gateEdges (old : State) (cause : ChanId) : (s.gateEdges old cause).attn =
    if ∃ y, y ≠ cause ∧ (s.channel y).edgeLoses s.mode (old.gateAsserted y) (s.gateAsserted y) = true
    then s.attn.captureLost else s.attn := by
  refine (attn_foldl_gateEdge s old.gateAsserted (nodup_others cause)).trans (if_congr ?_ rfl rfl)
  simp

end State

end Sys2Proof.Machine

/-! ## GATE-CHANNEL (R50) -/

namespace Sys2Proof.Machine

open Sys2Proof

namespace Channel

/-- The channel with its software gate flag set or clear. -/
def softGated (c : Channel) (flag : Bool) : Channel := { c with softGate := flag }

variable {c : Channel}

/-! ### The assertion and the release of a channel's sources, by its state (R40 to R42) -/

theorem sourcesAssert_immediate (state : c.state = .counting) (timing : c.boundaryTiming = false) (now : Nat) :
    c.sourcesAssert now = { c with state := .gated, gateRecord := some (now, c.tally) } := by
  unfold sourcesAssert
  rw [state]
  exact if_neg (Bool.eq_false_iff.mp timing)

theorem sourcesAssert_boundary (state : c.state = .counting) (timing : c.boundaryTiming = true) (now : Nat) :
    c.sourcesAssert now = { c with state := .gatePending } := by
  unfold sourcesAssert
  rw [state]
  exact if_pos timing

theorem sourcesAssert_releaseWait (state : c.state = .releaseWait) (now : Nat) :
    c.sourcesAssert now = { c with state := .gated } := by
  unfold sourcesAssert
  rw [state]

theorem sourcesAssert_other (counting : c.state ≠ .counting) (releaseWait : c.state ≠ .releaseWait) (now : Nat) :
    c.sourcesAssert now = c := by
  unfold sourcesAssert
  split
  next state => exact absurd state counting
  next state => exact absurd state releaseWait
  all_goals rfl

theorem sourcesCleared_pending (state : c.state = .gatePending) (mode : Mode) (now : Nat) :
    c.sourcesCleared mode now = { c with state := .counting } := by
  unfold sourcesCleared
  rw [state]

theorem sourcesCleared_manual (state : c.state = .gated) (manual : c.manualRestart = true) (mode : Mode) (now : Nat) :
    c.sourcesCleared mode now = { c with state := .releaseWait } := by
  unfold sourcesCleared
  rw [state]
  exact if_pos manual

theorem sourcesCleared_resumes (state : c.state = .gated) (automatic : c.manualRestart = false) (mode : Mode) (now : Nat) :
    c.sourcesCleared mode now = c.resumed mode now := by
  unfold sourcesCleared
  rw [state]
  exact if_neg (Bool.eq_false_iff.mp automatic)

theorem sourcesCleared_other (pending : c.state ≠ .gatePending) (gated : c.state ≠ .gated) (mode : Mode) (now : Nat) :
    c.sourcesCleared mode now = c := by
  unfold sourcesCleared
  split
  next state => exact absurd state pending
  next state => exact absurd state gated
  all_goals rfl

end Channel

namespace State

variable {s : State} {x : ChanId}

/-- The SET action is an assertion of the channel's sources, unless they were asserted (R50). -/
theorem gateSet_eq (s : State) (x : ChanId) : s.gateSet x =
    s.putChannel x (((s.channel x).softGated true).edge s.mode s.now (s.gateAsserted x) true) := by
  have asserted : (s.modChannel x (·.softGated true)).gateAsserted x = true := by
    simp [State.gateAsserted, Channel.softGated]
  change (s.modChannel x (·.softGated true)).gateEdge x (s.gateAsserted x) = _
  rw [gateEdge_eq, asserted, channel_modChannel, if_pos rfl, modChannel_eq, putCaptured_putChannel,
    show Channel.edgeLoses _ _ _ true = false by simp [Channel.edgeLoses]]
  rfl

theorem gateRelease_of_counting (state : (s.channel x).state = .counting) :
    s.gateRelease x = s.modChannel x (·.softGated false) := by
  unfold State.gateRelease
  rw [state]
  rfl

theorem gateRelease_of_pending (state : (s.channel x).state = .gatePending) :
    s.gateRelease x = s.modChannel x fun c => { c.softGated false with state := .counting } := by
  unfold State.gateRelease
  rw [state]
  exact modChannel_modChannel s x _ _

/-- RELEASE ends a gate whatever the restart setting (R50). -/
theorem gateRelease_of_gated (gated : (s.channel x).state = .gated ∨ (s.channel x).state = .releaseWait) :
    s.gateRelease x = s.putCaptured x (((s.channel x).softGated false).resumed s.mode s.now)
      ((s.channel x).resumeLoses s.mode) := by
  have resumes : s.gateRelease x = (s.modChannel x (·.softGated false)).resume x := by
    unfold State.gateRelease
    rcases gated with state | state
    · rw [state]
      rfl
    · rw [state]
      rfl
  rw [resumes, resume_eq, channel_modChannel, if_pos rfl, modChannel_eq, putCaptured_putChannel]
  rfl

/-- GATE-CHANNEL taken for a COUNT channel. -/
theorem gateChannel_of_count {ch action : Byte} (mode : s.mode ≠ .starting) (number : chanOf ch = some x)
    (known : action.toNat ≤ 1) (count : (s.channel x).mode = .count) : s.gateChannel ch action =
      if action = 0 then (s.gateSet x).answer .ok ((s.gateSet x).channel x).gateBytes
      else if s.lineAsserted (s.channel x).gateLine then s.refuse .wrongState 0
      else (s.gateRelease x).answer .ok ((s.gateRelease x).channel x).gateBytes := by
  simp only [State.gateChannel, if_neg mode, number, if_neg (not_lt.mpr known), count]
  rfl

end State

end Sys2Proof.Machine

namespace Sys2Proof.Proofs

open Sys2Proof Machine Safety

/-- Both rows of GATE-CHANNEL run the same owner with their action. -/
theorem exec_gateChannel {ft ch action : Byte} {s : State} {f : Frame} {c : Instr}
    (row : c = .gateChannelSet ft ch action ∨ (c = .gateChannelRelease ft ch ∧ action = 1))
    (hf : encodeRequest c = some f) (free : Free s f) : exec c s = .next ((s.inHand f).gateChannel ch action) := by
  obtain rfl | ⟨rfl, rfl⟩ := row
  · exact exec_of_free (fun t => t.gateChannel ch action) rfl hf free
  · exact exec_of_free (fun t => t.gateChannel ch 1) rfl hf free

section

variable {c : Instr} {ch action : Byte} {s : State} {f : Frame} {x : ChanId}

/-- SET on a COUNT channel (R50). -/
theorem exec_gateSet (taken : exec c s = .next ((s.inHand f).gateChannel ch action)) (pin : s.link.resetLow = false)
    (mode : s.mode ≠ .starting) (number : chanOf ch = some x) (count : (s.channel x).mode = .count) (sets : action = 0)
    {d : Channel} (hd : ((s.channel x).softGated true).edge s.mode s.now (s.gateAsserted x) true = d) :
    exec c s = .next (replied (s.putChannel x d) f .ok d.gateBytes) := by
  refine exec_answers taken pin ?_
  rw [State.gateChannel_of_count (by exact mode) number (by rw [sets]; decide) (by exact count), if_pos sets, State.gateSet_eq,
    State.channel_putChannel, if_pos rfl, ← hd]
  rfl

/-- SET on a channel whose sources were not asserted (R40, R50). -/
theorem exec_gateSet_asserts (taken : exec c s = .next ((s.inHand f).gateChannel ch action)) (pin : s.link.resetLow = false)
    (mode : s.mode ≠ .starting) (number : chanOf ch = some x) (count : (s.channel x).mode = .count) (sets : action = 0)
    (quiet : s.gateAsserted x = false) {d : Channel}
    (hd : ((s.channel x).softGated true).sourcesAssert s.now = d) :
    exec c s = .next (replied (s.putChannel x d) f .ok d.gateBytes) :=
  exec_gateSet taken pin mode number count sets
    (by rw [quiet, Channel.edge_assert (c := (s.channel x).softGated true) count, hd])

/-- RELEASE on a COUNT channel whose gate line is not asserted (R50). -/
theorem exec_gateRelease (taken : exec c s = .next ((s.inHand f).gateChannel ch action)) (pin : s.link.resetLow = false)
    (mode : s.mode ≠ .starting) (number : chanOf ch = some x) (count : (s.channel x).mode = .count) (releases : action = 1)
    (line : s.lineAsserted (s.channel x).gateLine = false) {d : Channel} {lost : Bool}
    (hd : (s.inHand f).gateRelease x = (s.inHand f).putCaptured x d lost) :
    exec c s = .next (replied (s.putCaptured x d lost) f .ok d.gateBytes) := by
  have line : ¬(s.inHand f).lineAsserted ((s.inHand f).channel x).gateLine = true := Bool.eq_false_iff.mp line
  refine exec_answers taken pin ?_
  rw [State.gateChannel_of_count (by exact mode) number (by rw [releases]; decide) (by exact count),
    if_neg (by rw [releases]; decide), if_neg line, hd, State.channel_putCaptured, if_pos rfl]
  rfl

/-- RELEASE of a gated channel whose gate line is not asserted: it resumes (R42, R50). -/
theorem exec_gateRelease_resumes (taken : exec c s = .next ((s.inHand f).gateChannel ch action))
    (pin : s.link.resetLow = false) (mode : s.mode ≠ .starting) (number : chanOf ch = some x)
    (count : (s.channel x).mode = .count) (releases : action = 1) (line : s.lineAsserted (s.channel x).gateLine = false)
    (gated : (s.channel x).state = .gated ∨ (s.channel x).state = .releaseWait) {d : Channel} {lost : Bool}
    (hd : ((s.channel x).softGated false).resumed s.mode s.now = d) (hl : (s.channel x).resumeLoses s.mode = lost) :
    exec c s = .next (replied (s.putCaptured x d lost) f .ok d.gateBytes) := by
  subst hd hl
  exact exec_gateRelease taken pin mode number count releases line (State.gateRelease_of_gated gated)

end

/-- Settles O15: by the refusals, then by the action and the channel's state. -/
theorem gateChannelSetsAndReleases : Obligations.GateChannelSetsAndReleases := by
  intro ft ch action s f c row hf free
  have taken := exec_gateChannel row hf free
  obtain ⟨pin, -⟩ := free
  refine ⟨fun starting => exec_refuses taken pin (if_pos starting), fun mode far => exec_refuses taken pin ?_,
    fun mode near unknown => exec_refuses taken pin ?_, fun x k mode number hk known => ?_⟩
  · rw [State.gateChannel, chanOf_eq_none far]
    exact if_neg mode
  · rw [State.gateChannel, (chanOf_eq_some_iff ch ⟨ch.toNat, by omega⟩).mpr rfl]
    exact (if_neg mode).trans (if_pos unknown)
  subst hk
  have number := (chanOf_eq_some_iff ch x).mpr number
  have set := exec_gateSet taken pin mode number
  have asserts := exec_gateSet_asserts taken pin mode number
  have release := exec_gateRelease taken pin mode number
  have resumes := exec_gateRelease_resumes taken pin mode number
  refine ⟨fun other => exec_refuses taken pin ?_, fun count sets still => ?_, fun count sets quiet state timing => ?_,
    fun count sets quiet state timing => ?_, fun count sets quiet state => ?_,
    fun count releases line => exec_refuses taken pin ?_, fun count releases line state => ?_,
    fun count releases line state => ?_, fun count releases line state setup => ?_,
    fun g cg count releases line state run gate => ?_⟩
  · have notCount : ((s.inHand f).channel x).mode != .count := bne_iff_ne.mpr other
    rw [State.gateChannel, number]
    exact (if_neg mode).trans ((if_neg (not_lt.mpr known)).trans (if_pos notCount))
  · cases asserted : s.gateAsserted x with
    | true => exact set count sets (by rw [asserted]; exact Channel.edge_same _ _ _ _)
    | false =>
      obtain ⟨counting, releaseWait⟩ := still.resolve_left (by simp [asserted])
      exact asserts count sets asserted
        (Channel.sourcesAssert_other (c := (s.channel x).softGated true) counting releaseWait _)
  · exact asserts count sets quiet (Channel.sourcesAssert_immediate (c := (s.channel x).softGated true) state timing _)
  · exact asserts count sets quiet (Channel.sourcesAssert_boundary (c := (s.channel x).softGated true) state timing _)
  · exact asserts count sets quiet (Channel.sourcesAssert_releaseWait (c := (s.channel x).softGated true) state _)
  · rw [State.gateChannel_of_count (by exact mode) number known (by exact count), if_neg (by rw [releases]; decide)]
    exact if_pos line
  · have code : [BitVec.ofNat 8 (s.channel x).state.code, 0] = ([2, 0] : List Byte) := by rw [state]; rfl
    rw [← code]
    exact release count releases line (lost := false) (State.gateRelease_of_counting state)
  · exact release count releases line (lost := false) (State.gateRelease_of_pending state)
  · exact resumes count releases line state (Channel.resumed_of_not_run setup _) (Channel.resumeLoses_of_not_run setup)
  · have loses : (s.channel x).resumeLoses s.mode = decide (4 ≤ (s.channel x).list.length) := by
      simp [Channel.resumeLoses, gate, run]
    have resumed := Channel.resumed_of_run (c := (s.channel x).softGated false) gate s.now
    rw [← run] at resumed
    rw [resumes count releases line state resumed loses]
    simp only [State.putCaptured, decide_eq_true_eq]
    rfl

end Sys2Proof.Proofs

/-! ## The level of one channel, and those that name it (R38, R39, R137) -/

namespace Sys2Proof.Machine

open Sys2Proof Sys2Proof.Proofs

namespace Channel

/-- The level a channel gives to the gates and holds that name it: it counts only in STATUS mode (R39, R137). -/
def level (c : Channel) : Bool := c.mode = .status && c.asserted

/-- A COUNT channel that is gated by the level of channel x alone (R39). -/
structure GatedBy (c : Channel) (x : ChanId) : Prop where
  mode : c.mode = .count
  gateLine : c.gateLine = some x
  softGate : c.softGate = false

end Channel

namespace State

/-- Channel x has moved from s to u, and the other channels and the zones are as they were. -/
structure Moved (s u : State) (x : ChanId) : Prop where
  others : ∀ y, y ≠ x → u.channel y = s.channel y
  zones : ∀ z, u.zone z = s.zone z

variable {s u : State} {x : ChanId}

theorem gateAsserted_of_gatedBy {y : ChanId} (h : (s.channel y).GatedBy x) : s.gateAsserted y = (s.channel x).level := by
  rw [State.gateAsserted, h.softGate, h.gateLine]
  exact Bool.false_or _

namespace Moved

variable (h : Moved s u x) {y : ChanId}
include h

theorem lineAsserted_other {line : Option ChanId} (other : line ≠ some x) : u.lineAsserted line = s.lineAsserted line := by
  cases line with
  | none => rfl
  | some l =>
    have apart : l ≠ x := fun same => other (congrArg some same)
    simp only [State.lineAsserted, h.others l apart]

/-! ### The gates (R39) -/

/-- The sources of a COUNT channel that x does not gate alone stay as they are. -/
theorem gateAsserted_other (apart : y ≠ x) (count : (s.channel y).mode = .count) (other : ¬(s.channel y).GatedBy x) :
    u.gateAsserted y = s.gateAsserted y := by
  simp only [State.gateAsserted, h.others y apart]
  cases soft : (s.channel y).softGate with
  | true => rfl
  | false => rw [h.lineAsserted_other fun line => other ⟨count, line, soft⟩]

theorem channel_gatedBy (apart : y ≠ x) (gated : (s.channel y).GatedBy x) : (u.gateEdges s x).channel y =
    (s.channel y).edge u.mode u.now (s.channel x).level (u.channel x).level := by
  have same := h.others y apart
  rw [channel_gateEdges, if_neg apart, gateAsserted_of_gatedBy gated, gateAsserted_of_gatedBy (by rwa [same]), same]

theorem channel_other (apart : y ≠ x) (other : ¬(s.channel y).GatedBy x) : (u.gateEdges s x).channel y = s.channel y := by
  rw [channel_gateEdges, if_neg apart, h.others y apart]
  by_cases count : (s.channel y).mode = .count
  · rw [h.gateAsserted_other apart count other, Channel.edge_same]
  · exact Channel.edge_of_not_count count _ _ _ _

omit h in
theorem channel_self : (u.gateEdges s x).channel x = u.channel x := by rw [channel_gateEdges, if_pos rfl]

/-- The channels that lose a record are among those gated by x alone. -/
theorem edgeLoses_iff (apart : y ≠ x) :
    (u.channel y).edgeLoses u.mode (s.gateAsserted y) (u.gateAsserted y) = true ↔ (s.channel y).GatedBy x ∧
      (s.channel y).edgeLoses u.mode (s.channel x).level (u.channel x).level = true := by
  rw [h.others y apart]
  by_cases gated : (s.channel y).GatedBy x
  · have after := gateAsserted_of_gatedBy (s := u) (by rwa [h.others y apart])
    rw [gateAsserted_of_gatedBy gated, after]
    exact (and_iff_right gated).symm
  · refine iff_of_false (fun loses => ?_) fun both => gated both.1
    by_cases count : (s.channel y).mode = .count
    · rw [h.gateAsserted_other apart count gated, Channel.edgeLoses_same] at loses
      exact Bool.false_ne_true loses
    · rw [Channel.edgeLoses_of_not_count count] at loses
      exact Bool.false_ne_true loses

theorem attn_of_lost (lost : ∃ y, y ≠ x ∧ (s.channel y).GatedBy x ∧
    (s.channel y).edgeLoses u.mode (s.channel x).level (u.channel x).level = true) :
    (u.gateEdges s x).attn = u.attn.captureLost := by
  obtain ⟨y, apart, loses⟩ := lost
  rw [attn_gateEdges, if_pos ⟨y, apart, (h.edgeLoses_iff apart).mpr loses⟩]

theorem attn_of_none_lost (none : ¬∃ y, y ≠ x ∧ (s.channel y).GatedBy x ∧
    (s.channel y).edgeLoses u.mode (s.channel x).level (u.channel x).level = true) : (u.gateEdges s x).attn = u.attn := by
  rw [attn_gateEdges, if_neg]
  rintro ⟨y, apart, loses⟩
  exact none ⟨y, apart, (h.edgeLoses_iff apart).mp loses⟩

/-! ### The holds (R93, R137) -/

/-- The holds that become active are those of the configured zones whose hold line is x, when x becomes asserted. -/
theorem holdBegins_iff (z : ZoneId) : (!s.holdActive z && u.holdActive z) = true ↔
    (s.zone z).condition ≠ .unconfigured ∧ (s.zone z).holdFlag = false ∧
      chanOf (s.zone z).entry.settings.holdLine = some x ∧ (s.channel x).level = false ∧ (u.channel x).level = true := by
  simp only [State.holdActive, h.zones z]
  by_cases line : chanOf (s.zone z).entry.settings.holdLine = some x
  · have level : ∀ t : State, t.lineAsserted (chanOf (s.zone z).entry.settings.holdLine) = (t.channel x).level := fun t => by
      rw [line]
      rfl
    rw [level, level]
    cases (s.channel x).level <;> cases (u.channel x).level <;> cases (s.zone z).holdFlag <;> simp [line]
  · rw [h.lineAsserted_other line]
    simp only [line, false_and, and_false, iff_false, Bool.not_eq_true, Bool.not_and_self]

omit h in
/-- Reaching the gates moves no status level. -/
theorem sameLines_gateEdges : SameLines u (u.gateEdges s x) := fun y => by
  rw [channel_gateEdges]
  split
  · exact ⟨rfl, rfl⟩
  · have same := Channel.sameGate_edge (u.channel y) u.mode u.now (s.gateAsserted y) (u.gateAsserted y)
    exact ⟨same.mode, same.asserted⟩

omit h in
theorem zone_gateEdges (z : ZoneId) : (u.gateEdges s x).zone z = u.zone z := by
  rw [Laws.gateEdges_onlyCapture u s x]
  rfl

/-- The part after x has reached the gates and holds that name it: the zones. -/
theorem zone_reached (z : ZoneId) : ((u.gateEdges s x).holdEdges s).zone z =
    if !s.holdActive z && u.holdActive z then
      { s.zone z with record := (s.zone z).record.map fun r => if r.state = .collecting then { r with held := true } else r }
    else s.zone z := by
  rw [State.holdEdges, zone_mapZones, zone_gateEdges, h.zones,
    holdActive_congr sameLines_gateEdges (zone_gateEdges z)]

end Moved

/-- Reaching the gates and holds changes channels, zones and flags alone. -/
theorem reached_frame (s u : State) (x : ChanId) : (u.gateEdges s x).holdEdges s =
    { u with channels := (u.gateEdges s x).channels, zones := ((u.gateEdges s x).holdEdges s).zones
             attn := (u.gateEdges s x).attn } := by
  have frame := Laws.gateEdges_onlyCapture u s x
  exact congrArg (fun t : State => { t with zones := ((u.gateEdges s x).holdEdges s).zones }) frame

end State

end Sys2Proof.Machine

/-! ## STATUS-LEVEL-CHANGE (R38) -/

namespace Sys2Proof.Machine.State

open Sys2Proof

/-- The status level of channel x takes its pin's level (R38). -/
def conditioned (s : State) (x : ChanId) : State :=
  s.modChannel x fun c => { c with asserted := !c.pinHigh, conditioning := false }

variable {s : State} {x : ChanId}

theorem channel_conditioned : (s.conditioned x).channel x =
    { s.channel x with asserted := !(s.channel x).pinHigh, conditioning := false } := by
  rw [conditioned, channel_modChannel, if_pos rfl]

theorem moved_conditioned : Moved s (s.conditioned x) x where
  others y apart := by rw [conditioned, channel_modChannel, if_neg apart]
  zones _ := rfl

theorem statusLevelChange_eq (status : (s.channel x).mode = .status) (conditioning : (s.channel x).conditioning = true) :
    s.statusLevelChange x = ((s.conditioned x).gateEdges s x).holdEdges s :=
  if_pos (by simp [status, conditioning])

end Sys2Proof.Machine.State

namespace Sys2Proof.Proofs

open Sys2Proof Machine

/-- Settles O13: by the channels gated by x alone, and by the zones whose hold line is x. -/
theorem statusLevelReachesGatesAndHolds : Obligations.StatusLevelReachesGatesAndHolds := by
  rintro x s on now named lost holds rfl rfl named_iff lost_iff holds_iff
  refine ⟨fun off => ?_, fun status conditioning => ?_⟩
  · refine congrArg Host.Outcome.next (if_neg ?_)
    rcases off with off | off
    · simp [off]
    · simp [off]
  have moved : State.Moved s (s.conditioned x) x := State.moved_conditioned
  have before : (s.channel x).level = (s.channel x).asserted := by simp [Channel.level, status]
  have after : ((s.conditioned x).channel x).level = !(s.channel x).pinHigh := by
    simp [State.channel_conditioned, Channel.level, status]
  have gated {y : ChanId} : named y ↔ y ≠ x ∧ (s.channel y).GatedBy x := by
    rw [named_iff]
    exact and_congr_right fun _ => ⟨fun ⟨mode, line, soft⟩ => ⟨mode, line, soft⟩, fun h => ⟨h.mode, h.gateLine, h.softGate⟩⟩
  have reached {y : ChanId} (hy : named y) : ((s.conditioned x).gateEdges s x).channel y =
      (s.channel y).edge s.mode s.now (s.channel x).asserted (!(s.channel x).pinHigh) := by
    obtain ⟨apart, gated⟩ := gated.mp hy
    rw [moved.channel_gatedBy apart gated, before, after]
    rfl
  have loses : (∃ y, y ≠ x ∧ (s.channel y).GatedBy x ∧ (s.channel y).edgeLoses s.mode (s.channel x).level
      ((s.conditioned x).channel x).level = true) ↔ ∃ y, lost y := by
    refine exists_congr fun y => ?_
    rw [lost_iff, gated, before, after]
    simp only [Channel.edgeLoses, Channel.resumeLoses, Bool.and_eq_true, decide_eq_true_eq]
    exact ⟨fun ⟨apart, gated, ⟨_, on, now, state, auto⟩, record, run, full⟩ =>
        ⟨⟨apart, gated⟩, on, now, state, auto, record, run, full⟩,
      fun ⟨⟨apart, gated⟩, on, now, state, auto, record, run, full⟩ =>
        ⟨apart, gated, ⟨gated.mode, on, now, state, auto⟩, record, run, full⟩⟩
  have attn : (((s.conditioned x).gateEdges s x).holdEdges s).attn = ((s.conditioned x).gateEdges s x).attn :=
    State.attn_mapZones _ _
  have channels (y : ChanId) : (((s.conditioned x).gateEdges s x).holdEdges s).channel y =
    ((s.conditioned x).gateEdges s x).channel y := State.channel_mapZones _ _ y
  refine ⟨_, congrArg Host.Outcome.next (State.statusLevelChange_eq status conditioning), ?_, ?_, fun y apart idle => ?_,
    fun y c hy hc on now => ?_, fun y c hy hc on now => ?_, fun none => ?_, fun some => ?_, fun z idle => ?_,
    fun z begins => ?_⟩
  · rw [State.reached_frame]
    rfl
  · rw [channels, State.Moved.channel_self, State.channel_conditioned]
  · rw [channels]
    by_cases hy : named y
    · rw [reached hy, idle.resolve_left (not_not_intro hy), Channel.edge_same]
    · exact moved.channel_other apart fun h => hy (gated.mpr ⟨apart, h⟩)
  · subst hc
    obtain ⟨-, gated⟩ := gated.mp hy
    rw [channels, reached hy, on, now, Channel.edge_assert gated.mode]
    exact ⟨fun state timing => Channel.sourcesAssert_immediate state timing _,
      fun state timing => Channel.sourcesAssert_boundary state timing _,
      fun state => Channel.sourcesAssert_releaseWait state _,
      fun counting releaseWait => Channel.sourcesAssert_other counting releaseWait _⟩
  · subst hc
    obtain ⟨-, gated⟩ := gated.mp hy
    rw [channels, reached hy, on, now, Channel.edge_clear gated.mode]
    refine ⟨fun state => Channel.sourcesCleared_pending state _ _,
      fun state manual => Channel.sourcesCleared_manual state manual _ _, fun state auto mode => ?_,
      fun g cg state auto record run => ?_, fun pending state => Channel.sourcesCleared_other pending state _ _⟩
    · rw [Channel.sourcesCleared_resumes state auto, Channel.resumed_of_not_run mode]
    · rw [Channel.sourcesCleared_resumes state auto, run, Channel.resumed_of_run record]
      rfl
  · rw [attn]
    exact moved.attn_of_none_lost fun h => (loses.mp h).elim none
  · rw [attn]
    exact moved.attn_of_lost (loses.mpr some)
  · rw [moved.zone_reached, if_neg]
    rw [moved.holdBegins_iff, before, after]
    exact mt (holds_iff z).mpr idle
  · rw [moved.zone_reached, if_pos]
    rw [moved.holdBegins_iff, before, after]
    exact (holds_iff z).mp begins

end Sys2Proof.Proofs

/-! ## SET-CHANNEL (R49) -/

namespace Sys2Proof.Machine

open Sys2Proof Sys2Proof.Proofs

namespace Channel

variable (c : Channel) (mode : ChanMode) (divider : Nat) (gateLine : Option ChanId) (timing restart : Bool)

/-- Channel k holds the configuration that SET-CHANNEL writes, and the capture list and overflow mark of channel c, which it
keeps (R49). -/
structure Configured (k : Channel) : Prop where
  mode : k.mode = mode
  divider : k.divider = divider
  gateLine : k.gateLine = gateLine
  boundaryTiming : k.boundaryTiming = timing
  manualRestart : k.manualRestart = restart
  list : k.list = c.list
  overflow : k.overflow = c.overflow

theorem configured_configure : Configured c mode divider gateLine timing restart
    (c.configure mode divider gateLine timing restart) := by
  unfold configure
  cases mode with
  | off => exact ⟨rfl, rfl, rfl, rfl, rfl, rfl, rfl⟩
  | status | count =>
    dsimp only
    split
    · exact ⟨rfl, rfl, rfl, rfl, rfl, rfl, rfl⟩
    · exact ⟨rfl, rfl, rfl, rfl, rfl, rfl, rfl⟩

/-- The working state of a channel written to STATUS mode (R49). -/
theorem configure_status (k : Channel) (hk : c.configure .status divider gateLine timing restart = k) :
    k.state = .status ∧ (c.mode = .status → k.asserted = c.asserted) ∧
      (c.mode ≠ .status → k.asserted = false ∧ k.conditioning = true ∧ k.tally = 0 ∧ k.softGate = false ∧
        k.gateRecord = none) := by
  subst hk
  unfold configure
  dsimp only
  split
  next was => exact ⟨rfl, fun _ => rfl, fun other => absurd was other⟩
  next other => exact ⟨rfl, fun was => absurd was other, fun _ => ⟨rfl, rfl, rfl, rfl, rfl⟩⟩

/-- The working state of a channel written to COUNT mode, before its gate is evaluated (R49). -/
theorem configure_count (k : Channel) (hk : c.configure .count divider gateLine timing restart = k) :
    k.phase = 0 ∧ k.asserted = false ∧ (c.mode = .count → k.tally = c.tally ∧ k.softGate = c.softGate) ∧
      (c.mode ≠ .count → k.tally = 0 ∧ k.softGate = false) := by
  subst hk
  unfold configure
  dsimp only
  split
  next was => exact ⟨rfl, rfl, fun _ => ⟨rfl, rfl⟩, fun other => absurd was other⟩
  next other => exact ⟨rfl, rfl, fun was => absurd was other, fun _ => ⟨rfl, rfl⟩⟩

/-- A channel's level outlives a SET-CHANNEL from STATUS mode to STATUS mode alone (R49). -/
theorem level_configure : (c.configure mode divider gateLine timing restart).level = (c.level && decide (mode = .status)) := by
  unfold configure level
  cases mode with
  | off => simp
  | status =>
    dsimp only
    split
    next status => simp [status]
    next other => simp [other]
  | count =>
    dsimp only
    split
    · simp
    · simp

end Channel

namespace State

/-- Channel k as SET-CHANNEL writes it into s, its gate evaluated afresh in COUNT mode (R49). -/
def regated (s : State) (k : Channel) : Channel :=
  if k.mode = .count then afresh s.now (k.softGate || s.lineAsserted k.gateLine) k else k

/-- Evaluating a gate afresh changes a channel's state and gate record alone. -/
theorem regated_eq (s : State) (k : Channel) :
    s.regated k = { k with state := (s.regated k).state, gateRecord := (s.regated k).gateRecord } := by
  unfold regated afresh
  split
  · split
    · rfl
    · rfl
  · rfl

theorem level_regated (s : State) (k : Channel) : (s.regated k).level = k.level := by
  rw [regated_eq]
  rfl

theorem regated_of_not_count {k : Channel} (h : k.mode ≠ .count) (s : State) : s.regated k = k := if_neg h

theorem regated_of_count {s : State} {k : Channel} (h : k.mode = .count) {asserted : Bool}
    (sources : (k.softGate || s.lineAsserted k.gateLine) = asserted) : s.regated k = afresh s.now asserted k := by
  rw [regated, if_pos h, sources]

/-- Channel x is written as d, and the gates and holds that name it are reached: in a state outside RUN where its level does not
rise, the COUNT channels gated by x alone are released as that level falls, and nothing else changes. -/
structure Rewritten (s : State) (x : ChanId) (d : Channel) (t : State) : Prop where
  frame : t = { s with channels := t.channels, zones := t.zones }
  zones : ∀ z, t.zone z = s.zone z
  self : t.channel x = d
  freed : ∀ y, y ≠ x → (s.channel y).GatedBy x → (s.channel x).level = true → d.level = false →
    t.channel y = (s.channel y).sourcesCleared s.mode s.now
  kept : ∀ y, y ≠ x → ¬((s.channel y).GatedBy x ∧ (s.channel x).level = true ∧ d.level = false) → t.channel y = s.channel y

variable {s : State} {x : ChanId} {d : Channel}

theorem rewritten_reached (mode : s.mode ≠ .run) (falls : d.level = true → (s.channel x).level = true) :
    Rewritten s x d (((s.putChannel x d).gateEdges s x).holdEdges s) := by
  have moved : Moved s (s.putChannel x d) x := ⟨fun y apart => by rw [channel_putChannel, if_neg apart], fun _ => rfl⟩
  have self : (s.putChannel x d).channel x = d := by rw [channel_putChannel, if_pos rfl]
  have channels (y : ChanId) : (((s.putChannel x d).gateEdges s x).holdEdges s).channel y =
    ((s.putChannel x d).gateEdges s x).channel y := channel_mapZones _ _ y
  refine ⟨?_, fun z => ?_, ?_, fun y apart gated high low => ?_, fun y apart keeps => ?_⟩
  · have attn : ((s.putChannel x d).gateEdges s x).attn = s.attn := by
      refine moved.attn_of_none_lost ?_
      rintro ⟨y, -, -, loses⟩
      rw [Channel.edgeLoses_of_not_run (by exact mode)] at loses
      exact Bool.false_ne_true loses
    rw [reached_frame, attn]
    rfl
  · rw [moved.zone_reached, if_neg]
    rw [moved.holdBegins_iff, self]
    rintro ⟨-, -, -, low, high⟩
    exact Bool.false_ne_true (low.symm.trans (falls high))
  · rw [channels, Moved.channel_self, self]
  · rw [channels, moved.channel_gatedBy apart gated, self, high, low, Channel.edge_clear gated.mode]
    rfl
  · rw [channels]
    by_cases gated : (s.channel y).GatedBy x
    · have level : d.level = (s.channel x).level := by
        cases low : d.level with
        | true => exact (falls low).symm
        | false => exact (Bool.eq_false_iff.mpr fun high => keeps ⟨gated, high, low⟩).symm
      rw [moved.channel_gatedBy apart gated, self, level, Channel.edge_same]
    · exact moved.channel_other apart gated

/-- The request in hand does not show in what SET-CHANNEL writes. -/
theorem Rewritten.of_inHand {t : State} {f : Frame} (h : Rewritten (s.inHand f) x d t) :
    Rewritten s x d { t with link := s.link } where
  frame := congrArg (fun u : State => { u with link := s.link }) h.frame
  zones := h.zones
  self := h.self
  freed := h.freed
  kept := h.kept

/-- The written channel with its gate evaluated afresh, when its gate line names another channel. -/
theorem setChannel_written (k : Channel) (other : k.gateLine ≠ some x) :
    (if k.mode = .count then (s.putChannel x k).gateAfresh x else s.putChannel x k) = s.putChannel x (s.regated k) := by
  have moved : Moved s (s.putChannel x k) x := ⟨fun y apart => by rw [channel_putChannel, if_neg apart], fun _ => rfl⟩
  by_cases count : k.mode = .count
  · have sources : (s.putChannel x k).gateAsserted x = (k.softGate || s.lineAsserted k.gateLine) := by
      rw [State.gateAsserted, channel_putChannel, if_pos rfl, moved.lineAsserted_other other]
    rw [if_pos count, regated, if_pos count, State.gateAfresh, modChannel_putChannel, sources]
    rfl
  · rw [if_neg count, regated_of_not_count count]

end State

end Sys2Proof.Machine

namespace Sys2Proof.Proofs

open Sys2Proof Machine Safety

/-- The fields of SET-CHANNEL are tested by the statement's list (R49). -/
theorem channelFault_item (x : ChanId) (mode divider gateLine timing restartMode : Byte) :
    (channelFault x mode divider gateLine timing restartMode).map (BitVec.ofNat 8) =
      channelItem x mode divider gateLine timing restartMode := by
  have line : (gateLine = 0xFF || (byteIn 0 15 gateLine && gateLine.toNat != x.val)) = true ↔
      (gateLine = 0xFF ∨ (gateLine.toNat ≤ 15 ∧ gateLine.toNat ≠ x.val)) := by simp [byteIn]
  have divides : (divider = 1 || divider = 4 || divider = 16) = true ↔ (divider = 1 ∨ divider = 4 ∨ divider = 16) := by
    simp [or_assoc]
  have within (hi : Nat) (b : Byte) : byteIn 0 hi b = true ↔ ¬hi < b.toNat := by simp [byteIn]
  simp only [channelFault, firstFailing_cons, channelItem, line, divides, within, ite_not,
    apply_ite (Option.map (BitVec.ofNat 8))]
  rfl

/-- Fields that pass name a gate line other than the channel itself (R49). -/
theorem gateLine_of_passes {x : ChanId} {mode divider gateLine timing restartMode : Byte}
    (h : channelFault x mode divider gateLine timing restartMode = none) : chanOf gateLine ≠ some x := by
  have line := Safety.firstFailing_eq_none.mp h
    (3, gateLine = 0xFF || (byteIn 0 15 gateLine && gateLine.toNat != x.val)) (by simp)
  intro self
  rw [chanOf_eq_some_iff] at self
  have := x.isLt
  simp only [Bool.or_eq_true, Bool.and_eq_true, decide_eq_true_eq, bne_iff_ne] at line
  rcases line with none | ⟨-, other⟩
  · simp [none] at self
    omega
  · exact other self

theorem chanModeOf_eq_status_iff (b : Byte) : chanModeOf b = .status ↔ b = 2 := by
  unfold chanModeOf
  split
  next one => simp [one]
  next =>
    split
    next two => simp [two]
    next other => exact iff_of_false (by decide) other

/-- SET-CHANNEL in SETUP with fields that pass (R49). -/
theorem exec_setChannel {ft ch mode divider gateLine timing restartMode : Byte} {s : State} {f : Frame} {x : ChanId}
    (hf : encodeRequest (.setChannel ft ch mode divider gateLine timing restartMode) = some f) (free : Free s f)
    (setup : s.mode = .setup) (number : ch.toNat = x.val)
    (passes : channelItem x mode divider gateLine timing restartMode = none) :
    ∃ t, exec (.setChannel ft ch mode divider gateLine timing restartMode) s =
        .next (replied t f .ok [BitVec.ofNat 8 (t.channel x).state.code]) ∧
      State.Rewritten s x (s.regated ((s.channel x).configure (chanModeOf mode) divider.toNat (chanOf gateLine)
        (timing = 1) (restartMode = 1))) t := by
  have taken := exec_of_free (fun t => t.setChannel ch mode divider gateLine timing restartMode) rfl hf free
  have faultless : channelFault x mode divider gateLine timing restartMode = none := by
    rwa [← channelFault_item, Option.map_eq_none_iff] at passes
  have other := gateLine_of_passes faultless
  have outside : (s.inHand f).mode ≠ .run := by
    rw [show (s.inHand f).mode = .setup from setup]
    decide
  generalize hk : (s.channel x).configure (chanModeOf mode) divider.toNat (chanOf gateLine) (timing = 1) (restartMode = 1) = k
  have settings := (s.channel x).configured_configure (chanModeOf mode) divider.toNat (chanOf gateLine) (timing = 1)
    (restartMode = 1)
  rw [hk] at settings
  have reached := State.rewritten_reached (s := s.inHand f) (x := x) (d := s.regated k) outside fun high => by
    rw [State.level_regated, ← hk, Channel.level_configure, Bool.and_eq_true] at high
    exact high.1
  have written : (s.inHand f).setChannel ch mode divider gateLine timing restartMode =
      State.answer ((((s.inHand f).putChannel x (s.regated k)).gateEdges (s.inHand f) x).holdEdges (s.inHand f)) .ok
        (((((s.inHand f).putChannel x (s.regated k)).gateEdges (s.inHand f) x).holdEdges (s.inHand f)).channel x).stateBytes := by
    have gated := State.setChannel_written (s := s.inHand f) (x := x) k (by rw [settings.gateLine]; exact other)
    rw [show k.mode = chanModeOf mode from settings.mode] at gated
    have set : ((s.inHand f).modChannel x fun c => c.configure (chanModeOf mode) divider.toNat (chanOf gateLine) (timing = 1)
        (restartMode = 1)) = (s.inHand f).putChannel x k := congrArg ((s.inHand f).putChannel x) hk
    simp only [State.setChannel, (chanOf_eq_some_iff ch x).mpr number, faultless]
    rw [if_pos (by exact setup), set, gated]
    rfl
  generalize (((s.inHand f).putChannel x (s.regated k)).gateEdges (s.inHand f) x).holdEdges (s.inHand f) = r at reached written
  have link : r.link = (s.inHand f).link := (congrArg State.link reached.frame :)
  refine ⟨{ r with link := s.link }, ?_, reached.of_inHand⟩
  rw [taken, written, State.answer_inHand .ok _ link free.1]
  rfl

/-- Settles O14: by the tests of the request, then by the mode written. -/
theorem setChannelWritesConfiguration : Obligations.SetChannelWritesConfiguration := by
  intro ft ch mode divider gateLine timing restartMode s f hf free
  have taken := exec_of_free (fun t => t.setChannel ch mode divider gateLine timing restartMode) rfl hf free
  refine ⟨fun outside => exec_refuses taken free.1 (if_neg outside), fun setup far => exec_refuses taken free.1 ?_,
    fun x item setup number fails => ?_, fun x setup number passes => ?_⟩
  · rw [State.setChannel, chanOf_eq_none far]
    exact if_pos setup
  · rw [← channelFault_item, Option.map_eq_some_iff] at fails
    obtain ⟨offset, fails, rfl⟩ := fails
    refine exec_refuses taken free.1 ?_
    rw [State.setChannel, (chanOf_eq_some_iff ch x).mpr number]
    simp only [fails]
    exact if_pos setup
  obtain ⟨t, replies, written⟩ := exec_setChannel hf free setup number passes
  have outside : s.mode ≠ .run := by rw [setup]; decide
  have level := (s.channel x).level_configure (chanModeOf mode) divider.toNat (chanOf gateLine) (timing = 1) (restartMode = 1)
  have settings := (s.channel x).configured_configure (chanModeOf mode) divider.toNat (chanOf gateLine) (timing = 1)
    (restartMode = 1)
  generalize hk : (s.channel x).configure (chanModeOf mode) divider.toNat (chanOf gateLine) (timing = 1) (restartMode = 1) = k
    at written level settings
  have self := written.self
  have gated := State.regated_eq s k
  rw [← self] at gated
  have falls : (s.regated k).level = ((s.channel x).level && decide (mode = 2)) := by
    rw [State.level_regated, level, decide_eq_decide.mpr (chanModeOf_eq_status_iff mode)]
  refine ⟨t, replies, written.frame, written.zones, fun y c freed apart hc freed_iff => ⟨fun idle => ?_, fun released => ?_⟩,
    ?_, ?_, ?_, ?_, ?_, ?_, fun off => ?_, fun status => ?_, fun count => ?_⟩
  · subst hc
    refine written.kept y apart fun ⟨gatedBy, high, low⟩ => idle ?_
    rw [falls, high, Bool.true_and, decide_eq_false_iff_not] at low
    rw [Channel.level, Bool.and_eq_true, decide_eq_true_eq] at high
    exact freed_iff.mpr ⟨gatedBy.mode, gatedBy.gateLine, gatedBy.softGate, high.1, high.2, low⟩
  · subst hc
    obtain ⟨counts, line, soft, status, asserted, other⟩ := freed_iff.mp released
    have high : (s.channel x).level = true := by simp [Channel.level, status, asserted]
    rw [written.freed y apart ⟨counts, line, soft⟩ high (by rw [falls, decide_eq_false other, Bool.and_false])]
    exact ⟨fun state => Channel.sourcesCleared_pending state _ _,
      fun state manual => Channel.sourcesCleared_manual state manual _ _,
      fun state auto => (Channel.sourcesCleared_resumes state auto _ _).trans (Channel.resumed_of_not_run outside _),
      fun pending state => Channel.sourcesCleared_other pending state _ _⟩
  · exact (congrArg Channel.divider gated).trans settings.divider
  · exact (congrArg Channel.gateLine gated).trans settings.gateLine
  · exact (congrArg Channel.boundaryTiming gated).trans settings.boundaryTiming
  · exact (congrArg Channel.manualRestart gated).trans settings.manualRestart
  · exact (congrArg Channel.list gated).trans settings.list
  · exact (congrArg Channel.overflow gated).trans settings.overflow
  · subst off
    rw [self, State.regated_of_not_count (by rw [settings.mode]; decide), ← hk]
    exact ⟨rfl, rfl, rfl, rfl, rfl, rfl, rfl⟩
  · subst status
    obtain ⟨state, was, wasNot⟩ := (s.channel x).configure_status _ _ _ _ k hk
    rw [self, State.regated_of_not_count (by rw [settings.mode]; decide)]
    exact ⟨settings.mode, state, was, wasNot⟩
  · subst count
    obtain ⟨phase, low, was, wasNot⟩ := (s.channel x).configure_count _ _ _ _ k hk
    have counts : k.mode = .count := settings.mode
    have soft : (t.channel x).softGate = k.softGate := (congrArg Channel.softGate gated).trans rfl
    have tally : (t.channel x).tally = k.tally := (congrArg Channel.tally gated).trans rfl
    rw [soft, tally, ← settings.gateLine]
    refine ⟨(congrArg Channel.mode gated).trans counts, (congrArg Channel.phase gated).trans phase,
      (congrArg Channel.asserted gated).trans low, was, wasNot, fun asserted => ?_, fun quiet => ?_⟩
    · rw [self, State.regated_of_count counts asserted]
      exact ⟨rfl, rfl⟩
    · rw [self, State.regated_of_count counts quiet]
      exact ⟨rfl, rfl⟩

end Sys2Proof.Proofs

/-! ## The channels at a boundary event (R41, R43) -/

namespace Sys2Proof.Machine

open Sys2Proof

namespace Channel

variable (c : Channel)

/-- The channel with its BOUNDARY record of time b posted, in RUN (R43). -/
def boundaryPosted (mode : Mode) (b : Nat) : Channel := if mode = Mode.run then c.post (.boundary b c.tally) else c

/-- The channel once it has had its part in a boundary event of time b (R41, R43). -/
def atBoundary (mode : Mode) (b : Nat) : Channel :=
  match c.state with
  | .counting => c.boundaryPosted mode b
  | .gatePending => (c.boundaryPosted mode b).gate b c.tally
  | .off | .status | .gated | .releaseWait => c

/-- The channel's BOUNDARY record meets a full list (R48). -/
def boundaryLoses (mode : Mode) : Bool :=
  decide (mode = .run ∧ (c.state = .counting ∨ c.state = .gatePending) ∧ 4 ≤ c.list.length)

theorem tally_boundaryPosted (mode : Mode) (b : Nat) : (c.boundaryPosted mode b).tally = c.tally := by
  unfold boundaryPosted
  split
  · rfl
  · rfl

variable {c}

theorem atBoundary_of_counting (state : c.state = .counting) (mode : Mode) (b : Nat) :
    c.atBoundary mode b = c.boundaryPosted mode b := by
  unfold atBoundary
  rw [state]

theorem atBoundary_of_pending (state : c.state = .gatePending) (mode : Mode) (b : Nat) :
    c.atBoundary mode b = (c.boundaryPosted mode b).gate b c.tally := by
  unfold atBoundary
  rw [state]

theorem atBoundary_of_other (counting : c.state ≠ .counting) (pending : c.state ≠ .gatePending) (mode : Mode) (b : Nat) :
    c.atBoundary mode b = c := by
  unfold atBoundary
  split
  next state => exact absurd state counting
  next state => exact absurd state pending
  all_goals rfl

/-- The record of a COUNTING channel whose list has room (R43). -/
theorem list_atBoundary (state : c.state = .counting) (room : c.list.length < 4) (b : Nat) :
    (c.atBoundary .run b).list = c.list ++ [.boundary b c.tally] := by
  rw [atBoundary_of_counting state]
  exact postTo_of_room room _

end Channel

namespace State

/-- CAPTURE-LOST stands latched (R48). -/
def LossLatched (s : State) : Prop := s.attn.latched &&& 0x10 = 0x10

variable {s : State}

/-- A latched flag stays latched when others latch (R168). -/
theorem LossLatched.latch (h : s.LossLatched) (flag : Byte) : (s.latch flag).LossLatched := by
  have grows : ∀ a b m : Byte, a &&& m = m → (a ||| b) &&& m = m := fun a b m ha => by
    rw [BitVec.and_comm, BitVec.and_or_distrib_left, BitVec.and_comm m a, ha]
    ext i
    simp only [BitVec.getElem_or, BitVec.getElem_and, Bool.or_eq_left_iff_imp, Bool.and_eq_true]
    exact And.left
  exact grows s.attn.latched flag 0x10 h

theorem LossLatched.congr {t : State} (h : s.LossLatched) (attn : t.attn = s.attn) : t.LossLatched := by
  rw [LossLatched, attn]
  exact h

theorem LossLatched.putCaptured (h : s.LossLatched) (x : ChanId) (c : Channel) (lost : Bool) :
    (s.putCaptured x c lost).LossLatched := by
  cases lost with
  | false => exact h
  | true => exact h.latch 0x10

theorem lossLatched_of_lost (s : State) (x : ChanId) (c : Channel) : (s.putCaptured x c true).LossLatched := by
  have raised (a b : Byte) : (a ||| b) &&& b = b := by
    ext i
    simp only [BitVec.getElem_and, BitVec.getElem_or, Bool.and_eq_right_iff_imp, Bool.or_eq_true]
    exact Or.inr
  exact raised s.attn.latched 0x10

theorem attn_markLost (s : State) (x : Subject) : (s.markLost x).attn = s.attn := by
  cases x <;> rfl

theorem LossLatched.offer (h : s.LossLatched) (x : Finding) : (s.offer x).LossLatched := by
  unfold State.offer
  split
  · dsimp only
    split
    · exact LossLatched.latch (s := s.setFindings _) h _
    · exact h
  · exact (h.congr (attn_markLost s _)).latch _

theorem LossLatched.setMark (h : s.LossLatched) (e : Subject) : (s.setMark e).LossLatched := by
  unfold State.setMark
  cases e with
  | zone z =>
    dsimp only
    split
    · exact LossLatched.latch (s := s.modZone z _) h _
    · exact h
  | meter m =>
    dsimp only
    split
    · exact LossLatched.latch (s := s.modMeter m _) h _
    · exact h

theorem attn_outOfService (s : State) (e : Subject) : (s.outOfService e).attn = s.attn := by
  cases e <;> rfl

theorem LossLatched.verify (h : s.LossLatched) (e : Subject) : (s.verify e).LossLatched := by
  unfold State.verify
  split
  · exact h
  · unfold State.newFault
    split
    · exact h.setMark e
    · exact ((h.setMark e).congr (attn_outOfService _ e)).offer _

theorem LossLatched.scrubStep (h : s.LossLatched) (w : BoundaryWork) : (s.scrubStep w).LossLatched := by
  have seen := LossLatched.verify (s := s.setBoundary { w with verifies := w.verifies - 1 }) h
    (entryOf (s.checker.scrub + Fin.ofNat 176 (scrubCount - w.verifies)))
  unfold State.scrubStep
  dsimp only
  split
  · exact seen
  · exact seen

theorem channels_verify (s : State) (e : Subject) : (s.verify e).channels = s.channels := by
  rw [Laws.verify_onlyFault s e]

theorem channels_scrubStep (s : State) (w : BoundaryWork) : (s.scrubStep w).channels = s.channels := by
  unfold State.scrubStep
  dsimp only
  split
  · exact channels_verify _ _
  · exact channels_verify _ _

theorem attn_stageBoundary (s : State) : s.stageBoundary.attn = s.attn := by
  unfold State.stageBoundary
  split
  · split
    · rw [Laws.applyCommit_onlyCommit s]
    · rfl
  · rfl

theorem attn_analyserBoundary (s : State) (mark : Option GridMark) : (s.analyserBoundary mark).attn = s.attn := by
  cases mark with
  | none => rfl
  | some gm => simp only [State.analyserBoundary, attn_mapZones]

/-- A channel's part in a boundary event writes that channel alone, and may raise CAPTURE-LOST. -/
theorem channelBoundary_eq (s : State) (b : Nat) (x : ChanId) : s.channelBoundary b x =
    s.putCaptured x ((s.channel x).atBoundary s.mode b) ((s.channel x).boundaryLoses s.mode) := by
  have posted (counts : (s.channel x).state = .counting ∨ (s.channel x).state = .gatePending) :
      s.post x (.boundary b (s.channel x).tally) =
        s.putCaptured x ((s.channel x).boundaryPosted s.mode b) ((s.channel x).boundaryLoses s.mode) := by
    by_cases run : s.mode = .run
    · have loses : (s.channel x).boundaryLoses s.mode = decide (4 ≤ (s.channel x).list.length) := by
        simp [Channel.boundaryLoses, run, counts]
      rw [post_of_run run, loses, Channel.boundaryPosted, if_pos run]
    · have keeps : (s.channel x).boundaryLoses s.mode = false := by simp [Channel.boundaryLoses, run]
      rw [post_of_not_run run, keeps, Channel.boundaryPosted, if_neg run, putCaptured_self]
  have keeps (idle : ¬((s.channel x).state = .counting ∨ (s.channel x).state = .gatePending)) :
      s = s.putCaptured x (s.channel x) ((s.channel x).boundaryLoses s.mode) := by
    have none_lost : (s.channel x).boundaryLoses s.mode = false := by simp [Channel.boundaryLoses, idle]
    rw [none_lost, putCaptured_self]
  unfold State.channelBoundary
  dsimp only
  split
  next state => rw [posted (.inl state), Channel.atBoundary_of_counting state]
  next state =>
    rw [posted (.inr state), modChannel_putCaptured, Channel.atBoundary_of_pending state, Channel.tally_boundaryPosted]
  all_goals
    next state =>
      rw [Channel.atBoundary_of_other (by simp [state]) (by simp [state])]
      exact keeps (by simp [state])

end State

end Sys2Proof.Machine

/-! ### What the delivery does to the channels -/

namespace Sys2Proof.Machine

open Sys2Proof Laws

/-- The channels whose part is left: those that were left before, and are not named. -/
theorem BoundaryWork.mem_afterAll_channels (run : Bool) {w : BoundaryWork} (nodup : w.channels.Nodup)
    (order : List BoundaryPart) (x : ChanId) :
    x ∈ (w.afterAll run order).channels ↔ x ∈ w.channels ∧ .channel x ∉ order := by
  induction order generalizing w with
  | nil => simp
  | cons p order ih =>
    rw [afterAll_cons]
    cases p with
    | channel c =>
      have left : (w.after run (.channel c)).channels = w.channels.erase c := rfl
      rw [ih (by rw [left]; exact nodup.erase c), left, nodup.mem_erase_iff]
      simp only [List.mem_cons, BoundaryPart.channel.injEq, not_or]
      tauto
    | stage | analyser | verify =>
      rw [ih (by exact nodup)]
      simp [after]

/-- How far the channels are in a delivery that began in s with the work w₀: those whose part is done are past the event, and
the others are as in s. -/
structure ChannelsAt (s : State) (w₀ : BoundaryWork) (u : State) (w : BoundaryWork) : Prop where
  event : w.event = w₀.event
  nodup : w.channels.Nodup
  left : w.channels ⊆ w₀.channels
  channel : ∀ x, u.channel x =
    if x ∈ w₀.channels ∧ x ∉ w.channels then (s.channel x).atBoundary s.mode w₀.event.time else s.channel x
  lost : ∀ x, x ∈ w₀.channels → x ∉ w.channels → (s.channel x).boundaryLoses s.mode = true → u.LossLatched

namespace ChannelsAt

variable {s u t : State} {w₀ w : BoundaryWork}

theorem begin (nodup : w₀.channels.Nodup) : ChannelsAt s w₀ s w₀ where
  event := rfl
  nodup := nodup
  left := List.Subset.refl _
  channel _ := (if_neg fun both => both.2 both.1).symm
  lost _ mem left := absurd mem left

/-- A part that is not a channel's moves no channel. -/
theorem congr (h : ChannelsAt s w₀ u w) {w' : BoundaryWork} (event : w'.event = w.event) (work : w'.channels = w.channels)
    (channels : t.channels = u.channels) (lost : u.LossLatched → t.LossLatched) : ChannelsAt s w₀ t w' where
  event := event.trans h.event
  nodup := work ▸ h.nodup
  left := work ▸ h.left
  channel x := by
    rw [work, ← h.channel x]
    simp only [State.channel, channels]
  lost x mem left loses := lost (h.lost x mem (work ▸ left) loses)

/-- The part of channel c. -/
theorem part (h : ChannelsAt s w₀ u w) (only : OnlyBoundary s u) {c : ChanId} (hc : c ∈ w.channels) :
    ChannelsAt s w₀ ((u.setBoundary { w with channels := w.channels.erase c }).channelBoundary w.event.time c)
      { w with channels := w.channels.erase c } where
  event := h.event
  nodup := h.nodup.erase c
  left _ hx := h.left (List.mem_of_mem_erase hx)
  channel x := by
    have mode : (u.setBoundary { w with channels := w.channels.erase c }).mode = s.mode :=
      (rfl : _ = u.mode).trans (State.mode_of_onlyBoundary only)
    have before (y : ChanId) : (u.setBoundary { w with channels := w.channels.erase c }).channel y = u.channel y := rfl
    rw [State.channelBoundary_eq, State.channel_putCaptured, mode, before, before, h.channel c, h.channel x, h.event]
    simp only [h.nodup.mem_erase_iff]
    by_cases same : x = c
    · subst same
      simp [hc, h.left hc]
    · simp [same]
  lost x mem left loses := by
    have mode : (u.setBoundary { w with channels := w.channels.erase c }).mode = s.mode :=
      (rfl : _ = u.mode).trans (State.mode_of_onlyBoundary only)
    have before : (u.setBoundary { w with channels := w.channels.erase c }).channel c = s.channel c :=
      (h.channel c).trans (if_neg fun both => both.2 hc)
    rw [State.channelBoundary_eq, mode, before]
    by_cases same : x = c
    · rw [← same, loses]
      exact State.lossLatched_of_lost _ _ _
    · have done : x ∉ w.channels := fun hx => left (h.nodup.mem_erase_iff.mpr ⟨same, hx⟩)
      exact State.LossLatched.putCaptured (s := u.setBoundary _) (h.lost x mem done loses) _ _ _

end ChannelsAt

/-- Every part of an event in delivery keeps account of the channels. -/
theorem channelsAt_kept (s : State) (w₀ : BoundaryWork) : s.KeptInDelivery (ChannelsAt s w₀) where
  channel _ _ _ only h hc := h.part only hc
  stage _ _ _ h _ := h.congr rfl rfl (Proofs.channels_stageBoundary _) fun lost => lost.congr (State.attn_stageBoundary _)
  analyser _ _ _ h _ := h.congr rfl rfl (Proofs.channels_analyserBoundary _ _) fun lost =>
    lost.congr (State.attn_analyserBoundary _ _)
  skip _ _ _ h _ _ := h.congr rfl rfl rfl id
  verify u w _ h _ _ := h.congr rfl rfl (State.channels_scrubStep u w) fun lost => lost.scrubStep w


section

variable {s : State} {w : BoundaryWork} (hb : s.time.boundary = some w) (nodup : w.channels.Nodup) (order : List BoundaryPart)
include hb nodup

theorem channelsAt_boundaryParts : ChannelsAt s w (s.boundaryParts order) (w.afterAll s.running order) :=
  ((channelsAt_kept s w).parts hb (.begin nodup) order).2

/-- The parts named move each channel among them whose part is left, and no other (R41, R43). -/
theorem channel_boundaryParts (x : ChanId) : (s.boundaryParts order).channel x =
    if x ∈ w.channels ∧ .channel x ∈ order then (s.channel x).atBoundary s.mode w.event.time else s.channel x := by
  rw [(channelsAt_boundaryParts hb nodup order).channel]
  refine if_congr (and_congr_right fun mem => ?_) rfl rfl
  rw [w.mem_afterAll_channels s.running nodup, not_and, not_not]
  exact forall_prop_of_true mem

/-- A BOUNDARY record that meets a full list raises CAPTURE-LOST (R48). -/
theorem lossLatched_boundaryParts {x : ChanId} (mem : x ∈ w.channels) (named : .channel x ∈ order)
    (loses : (s.channel x).boundaryLoses s.mode = true) : (s.boundaryParts order).LossLatched :=
  (channelsAt_boundaryParts hb nodup order).lost x mem
    (fun left => ((w.mem_afterAll_channels s.running nodup order x).mp left).2 named) loses

/-- The rest of a second works every part that is left (log 30). -/
theorem exec_rest : ∃ t, exec (.secondTick [] .rest) s = .next t ∧
    ∀ x, t.channel x = if x ∈ w.channels then (s.channel x).atBoundary s.mode w.event.time else s.channel x := by
  refine ⟨s.settle, rfl, fun x => ?_⟩
  have settles : s.settle.channel x = (s.boundaryParts allParts).channel x := by
    simp only [State.settle, hb, State.channel_modTime]
  have named : BoundaryPart.channel x ∈ allParts := by simp [allParts]
  rw [settles, channel_boundaryParts hb nodup]
  exact if_congr (and_iff_left named) rfl rfl

end

end Sys2Proof.Machine

/-! ### The channels at a boundary tick (O5) -/

namespace Sys2Proof.Proofs

open Sys2Proof Machine

section

variable {s : State} (eve : Eve s)
include eve

/-- The second that raises an event works the channels' parts: all of them in the whole second, those named in a share. -/
theorem Eve.tick_channels (order : List BoundaryPart) {share : SecondShare} (begins : share = .whole ∨ share = .start) :
    ∃ t, exec (.secondTick order share) s = .next t ∧
      (∀ x, (share = .whole ∨ .channel x ∈ order) →
        t.channel x = (s.channel x).atBoundary s.mode (s.time.partTime + 1) ∧
        ((s.channel x).boundaryLoses s.mode = true → t.LossLatched)) ∧
      (∀ x, share = .start → .channel x ∉ order → t.channel x = s.channel x) := by
  have raisedAll (x : ChanId) : x ∈ (raised s).channels := List.mem_finRange x
  have nodup : (raised s).channels.Nodup := List.nodup_finRange 16
  have inAll (x : ChanId) : BoundaryPart.channel x ∈ order ++ allParts := by simp [allParts]
  have boundary : (begun s).time.boundary = some (raised s) := rfl
  rcases begins with rfl | rfl
  · refine ⟨_, eve.whole order, fun x _ => ⟨?_, fun loses => ?_⟩, fun x start => by cases start⟩
    · rw [State.channel_modTime, channel_boundaryParts boundary nodup, if_pos ⟨raisedAll x, inAll x⟩]
      rfl
    · exact lossLatched_boundaryParts boundary nodup _ (raisedAll x) (inAll x) loses
  · refine ⟨_, eve.start order, fun x named => ?_, fun x _ unnamed => ?_⟩
    · have named := named.resolve_left (by decide)
      refine ⟨?_, fun loses => lossLatched_boundaryParts boundary nodup _ (raisedAll x) named loses⟩
      rw [channel_boundaryParts boundary nodup, if_pos ⟨raisedAll x, named⟩]
      rfl
    · rw [channel_boundaryParts boundary nodup, if_neg fun both => unnamed both.2]
      rfl

end

/-- A counted edge that reaches the divider in RUN, when the list has room (R37, R43). -/
theorem exec_pulse_with_room {u : State} {x : ChanId} (run : u.mode = .run) (count : (u.channel x).mode = .count)
    (state : (u.channel x).state = .counting) (high : (u.channel x).pinHigh = true) {micros : Nat}
    (counts : (u.channel x).edgeCounted = false ∨ 20000 ≤ micros) (reaches : (u.channel x).divider ≤ (u.channel x).phase + 1)
    (room : (u.channel x).list.length < 4) : ∃ v, exec (.pinChange x false micros) u = .next v ∧ v.time = u.time ∧
      v.mode = .run ∧ (v.channel x).state = .counting ∧ (v.channel x).tally = (u.channel x).tally + 1 ∧
      (v.channel x).list = (u.channel x).list ++ [.pulse u.time.partTime ((u.channel x).tally + 1)] := by
  obtain ⟨-, -, -, recorded⟩ := countedEdgeIsTallied x micros u _ _ rfl high count counts rfl
  refine ⟨_, recorded (.inl state) reaches run, rfl, run, ?_⟩
  have self (c : Channel) : (u.putChannel x c).channel x = c := (State.channel_putChannel u x x c).trans (if_pos rfl)
  rw [← postTo_of_room room]
  exact ⟨(congrArg Channel.state (self _)).trans state, (congrArg Channel.tally (self _)).trans rfl,
    (congrArg Channel.list (self _)).trans rfl⟩

section

variable {s : State} {x : ChanId} {micros : Nat} (eve : Eve s) (run : s.mode = .run) (count : (s.channel x).mode = .count)
  (state : (s.channel x).state = .counting) (high : (s.channel x).pinHigh = true)
  (counts : (s.channel x).edgeCounted = false ∨ 20000 ≤ micros) (reaches : (s.channel x).divider ≤ (s.channel x).phase + 1)
  (room : (s.channel x).list.length ≤ 2)
include eve run count state high counts reaches room

/-- A pulse in a boundary's second, before its channel has had its part (R43). -/
theorem Eve.pulse_then_boundary : ∃ u v t, exec (.secondTick [] .start) s = .next u ∧
    exec (.pinChange x false micros) u = .next v ∧ exec (.secondTick [] .rest) v = .next t ∧
    (t.channel x).list = (s.channel x).list ++ [.pulse (s.time.partTime + 1) ((s.channel x).tally + 1),
      .boundary (s.time.partTime + 1) ((s.channel x).tally + 1)] := by
  obtain ⟨v, pulses, time, running, state', tally, list⟩ :=
    exec_pulse_with_room (u := begun s) run count state high counts reaches (by exact room.trans_lt (by decide))
  have tally : (v.channel x).tally = (s.channel x).tally + 1 := tally
  have list : (v.channel x).list = (s.channel x).list ++ [.pulse (s.time.partTime + 1) ((s.channel x).tally + 1)] := list
  have boundary : v.time.boundary = some (raised s) := by rw [time]; rfl
  have named : x ∈ (raised s).channels := List.mem_finRange x
  have room' : (v.channel x).list.length < 4 := by
    rw [list, List.length_append, List.length_singleton]
    omega
  obtain ⟨t, rests, channel⟩ := exec_rest boundary (List.nodup_finRange 16)
  refine ⟨_, v, t, eve.start [], pulses, rests, ?_⟩
  rw [channel x, if_pos named, running, Channel.list_atBoundary state' room', list, tally, List.append_assoc]
  rfl

/-- A pulse in a boundary's second, after its channel has had its part (R43). -/
theorem Eve.boundary_then_pulse : ∃ u v t, exec (.secondTick [.channel x] .start) s = .next u ∧
    exec (.pinChange x false micros) u = .next v ∧ exec (.secondTick [] .rest) v = .next t ∧
    (t.channel x).list = (s.channel x).list ++ [.boundary (s.time.partTime + 1) (s.channel x).tally,
      .pulse (s.time.partTime + 1) ((s.channel x).tally + 1)] := by
  have nodup : (raised s).channels.Nodup := List.nodup_finRange 16
  have starts := eve.start [.channel x]
  have only := Laws.boundaryParts_onlyBoundary (begun s) [.channel x]
  obtain ⟨left, -⟩ := (channelsAt_kept (begun s) (raised s)).parts (w := raised s) rfl (.begin nodup) [.channel x]
  have own := channel_boundaryParts (s := begun s) (w := raised s) rfl nodup [.channel x] x
  rw [if_pos ⟨List.mem_finRange x, List.mem_singleton_self _⟩] at own
  generalize (begun s).boundaryParts [.channel x] = u at starts only left own
  have own : u.channel x = (s.channel x).post (.boundary (s.time.partTime + 1) (s.channel x).tally) := by
    rw [own]
    exact (Channel.atBoundary_of_counting state _ _).trans (if_pos run)
  have now : u.time.partTime = s.time.partTime + 1 := by rw [only]; rfl
  have posted : (u.channel x).list = (s.channel x).list ++ [.boundary (s.time.partTime + 1) (s.channel x).tally] := by
    rw [own]
    exact postTo_of_room (room.trans_lt (by decide)) _
  have room' : (u.channel x).list.length < 4 := by
    rw [posted, List.length_append, List.length_singleton]
    omega
  obtain ⟨v, pulses, time, -, -, -, list⟩ := exec_pulse_with_room (u := u) (by rw [State.mode_of_onlyBoundary only]; exact run)
    (by rw [own]; exact count) (by rw [own]; exact state) (by rw [own]; exact high) (by rw [own]; exact counts)
    (by rw [own]; exact reaches) room'
  have boundary : v.time.boundary = some ((raised s).afterAll (begun s).running [.channel x]) := by rw [time, left]
  obtain ⟨t, rests, channel⟩ := exec_rest boundary (nodup.erase x)
  have done : x ∉ ((raised s).afterAll (begun s).running [.channel x]).channels := fun mem =>
    (nodup.mem_erase_iff.mp mem).1 rfl
  refine ⟨u, v, t, starts, pulses, rests, ?_⟩
  rw [channel x, if_neg done, list, posted, now, List.append_assoc, own]
  rfl

end

/-- Settles O5: by the delivery of the channels' parts, and with a pulse of the same second before or after its own channel's
part. -/
theorem boundaryTickPostsRecords : Obligations.BoundaryTickPostsRecords := by
  rintro s b none standstill time rfl multiple
  have eve : Eve s := ⟨none, standstill, time, multiple⟩
  refine ⟨fun order share begins => ?_, fun x micros c hc run count state high counts reaches room => ?_⟩
  · obtain ⟨t, ticks, worked, unworked⟩ := eve.tick_channels order begins
    refine ⟨t, ticks, fun x posted named hp => ?_, unworked, fun x named run state full => ?_⟩
    · obtain ⟨channel, -⟩ := worked x named
      have same : posted = (s.channel x).boundaryPosted s.mode (s.time.partTime + 1) := hp
      rw [channel, same]
      exact ⟨fun counting => Channel.atBoundary_of_counting counting _ _,
        fun pending => Channel.atBoundary_of_pending pending _ _,
        fun counting pending => Channel.atBoundary_of_other counting pending _ _⟩
    · obtain ⟨-, lost⟩ := worked x named
      exact lost (decide_eq_true ⟨run, state, full⟩)
  · subst hc
    exact ⟨eve.pulse_then_boundary run count state high counts reaches room,
      eve.boundary_then_pulse run count state high counts reaches room⟩

end Sys2Proof.Proofs

/-! ## Shares of a span (R72, R73) -/

namespace Sys2Proof.Machine

open Sys2Proof Safety

/-- A share is the difference of the cumulative floors at the end and at the start of its bin (R72). -/
theorem getElem?_sharesFrom (dv span before : Nat) {overlaps : List Nat} {k : Nat} (hk : k < overlaps.length) :
    (sharesFrom dv span before overlaps)[k]? = some (dv * (before + (overlaps.take (k + 1)).sum) / span -
      dv * (before + (overlaps.take k).sum) / span) := by
  induction overlaps generalizing before k with
  | nil => exact absurd hk (Nat.not_lt_zero k)
  | cons o rest ih =>
    cases k with
    | zero => simp [sharesFrom]
    | succ k =>
      have inner := ih (before + o) (k := k) (by simpa using hk)
      simpa only [sharesFrom, List.getElem?_cons_succ, List.take_succ_cons, List.sum_cons, Nat.add_assoc] using inner

/-- The cumulative floors telescope (R72). -/
theorem sum_sharesFrom (dv span before : Nat) (overlaps : List Nat) :
    (sharesFrom dv span before overlaps).sum = dv * (before + overlaps.sum) / span - dv * before / span := by
  induction overlaps generalizing before with
  | nil => simp [sharesFrom]
  | cons o rest ih =>
    have start : dv * before / span ≤ dv * (before + o) / span :=
      Nat.div_le_div_right (Nat.mul_le_mul_left dv (Nat.le_add_right ..))
    have stop : dv * (before + o) / span ≤ dv * (before + o + rest.sum) / span :=
      Nat.div_le_div_right (Nat.mul_le_mul_left dv (Nat.le_add_right ..))
    rw [sharesFrom, List.sum_cons, List.sum_cons, ih, ← Nat.add_assoc]
    omega

namespace Grid

variable (g : Grid) (night volume t0 t1 : Nat)

theorem length_binOverlaps : (g.binOverlaps night t0 t1).length = g.binCount := by
  simp only [binOverlaps, List.length_map, List.length_range]

theorem length_shares : (g.shares night volume t0 t1).length = g.binCount :=
  (Keeps.sharesFrom_length ..).trans (g.length_binOverlaps night t0 t1)

variable {g night t0 t1}

/-- The first overlaps of a span, bin by bin. -/
theorem take_binOverlaps {o : Nat → Nat}
    (ho : ∀ k, o k = min t1 (g.binStart night (k + 1)) - max t0 (g.binStart night k)) {k : Nat} (hk : k ≤ g.binCount) :
    (g.binOverlaps night t0 t1).take k = (List.range k).map o := by
  rw [binOverlaps, ← List.map_take, List.take_range, Nat.min_eq_left hk]
  exact List.map_congr_left fun j _ => (ho j).symm

theorem getElem?_shares {o : Nat → Nat}
    (ho : ∀ k, o k = min t1 (g.binStart night (k + 1)) - max t0 (g.binStart night k)) {k : Nat} (hk : k < g.binCount) :
    (g.shares night volume t0 t1)[k]? = some
      (volume * ((List.range (k + 1)).map o).sum / (t1 - t0) - volume * ((List.range k).map o).sum / (t1 - t0)) := by
  rw [shares, getElem?_sharesFrom _ _ _ (hk.trans_eq (g.length_binOverlaps night t0 t1).symm), take_binOverlaps ho hk,
    take_binOverlaps ho hk.le]
  simp only [Nat.zero_add]

theorem sum_shares {o : Nat → Nat}
    (ho : ∀ k, o k = min t1 (g.binStart night (k + 1)) - max t0 (g.binStart night k)) :
    (g.shares night volume t0 t1).sum = volume * ((List.range g.binCount).map o).sum / (t1 - t0) := by
  have whole := take_binOverlaps ho (Nat.le_refl g.binCount)
  rw [List.take_of_length_le (Nat.le_of_eq (g.length_binOverlaps night t0 t1))] at whole
  rw [shares, sum_sharesFrom, whole]
  simp only [Nat.zero_add, Nat.mul_zero, Nat.zero_div, Nat.sub_zero]

end Grid

end Sys2Proof.Machine

namespace Sys2Proof.Proofs

open Sys2Proof Machine Safety

/-- Settles O26: the shares one by one, and their telescoping sum. -/
theorem sharesAreCumulativeFloors : Obligations.SharesAreCumulativeFloors := by
  intro g night volume t0 t1 o _ ho
  exact ⟨g.length_shares night volume t0 t1, fun k hk => Grid.getElem?_shares volume ho hk, Grid.sum_shares volume ho⟩

end Sys2Proof.Proofs

/-! ## The records of a slot's zones, as a point touches them (R56, R71) -/

namespace Sys2Proof.Machine

open Sys2Proof Safety

/-- State t differs from s at most in its zones and in the zones that the intake notes. -/
def OnlyRecords (s t : State) : Prop :=
  t = { s with zones := t.zones, intake := { s.intake with touched := t.intake.touched } }

theorem OnlyRecords.trans {s t u : State} (h : OnlyRecords s t) (h' : OnlyRecords t u) : OnlyRecords s u := by
  unfold OnlyRecords at h h' ⊢
  rw [h', h]

/-- A change of open records that keeps their nights and states. -/
def KeepsNights (f : Dir → NightRecord → NightRecord) : Prop := ∀ d r, (f d r).night = r.night ∧ (f d r).state = r.state

/-- No record of zone z is listed by taken slot t. -/
def State.Unlisted (s : State) (t : TakenSlot) (z : ZoneId) : Prop :=
  ∀ r, (s.zone z).record = some r → (z, r.night) ∉ t.nights

namespace State

variable {s : State} {t : TakenSlot} {f : Dir → NightRecord → NightRecord} {p : ZoneId × Dir}

theorem touchRecord_onlyRecords (s : State) (t : TakenSlot) (f : Dir → NightRecord → NightRecord) (p : ZoneId × Dir) :
    OnlyRecords s (s.touchRecord t f p) := by
  unfold touchRecord
  split
  · split
    · dsimp only
      split <;> rfl
    · rfl
  · rfl

theorem touchRecord_of_unlisted (h : s.Unlisted t p.1) : s.touchRecord t f p = s := by
  unfold touchRecord
  split
  next r record => exact if_neg (by simpa using h r record)
  next => rfl

/-- A listed record is changed, no other zone, and its zone is noted when that changed it (R56). -/
theorem touchRecord_of_listed {r : NightRecord} (record : (s.zone p.1).record = some r) (listed : (p.1, r.night) ∈ t.nights) :
    (∀ z, (s.touchRecord t f p).zone z = if z = p.1 then { s.zone p.1 with record := some (f p.2 r) } else s.zone z) ∧
      ∀ z, z ∈ (s.touchRecord t f p).intake.touched ↔ (z ∈ s.intake.touched ∨ (z = p.1 ∧ f p.2 r ≠ r)) := by
  simp only [touchRecord, record, if_pos (List.contains_iff_mem.mpr listed)]
  split
  next same => exact ⟨fun z => zone_modZone .., fun z => by simp [same]⟩
  next changed =>
    refine ⟨fun z => by simp only [zone_modIntake, zone_modZone], fun z => ?_⟩
    by_cases mem : p.1 ∈ s.intake.touched
    · simp only [intake_modIntake, intake_modZone, List.contains_iff_mem, mem, if_true]
      exact ⟨.inl, fun h => h.elim id fun h => h.1 ▸ mem⟩
    · simp [mem, changed]

/-- A zone other than the membership's, or without a record that the taken slot lists, is left alone. -/
theorem zone_touchRecord_other {z : ZoneId} (h : p.1 ≠ z ∨ s.Unlisted t z) : (s.touchRecord t f p).zone z = s.zone z := by
  by_cases unlisted : s.Unlisted t p.1
  · rw [touchRecord_of_unlisted unlisted]
  · simp only [Unlisted, not_forall, not_not] at unlisted
    obtain ⟨r, record, listed⟩ := unlisted
    rw [(touchRecord_of_listed record listed).1, if_neg]
    rintro rfl
    exact h.elim (· rfl) fun h => h r record listed

theorem touchRecord_noted (s : State) (t : TakenSlot) (f : Dir → NightRecord → NightRecord) (p : ZoneId × Dir)
    (z : ZoneId) : z ∈ (s.touchRecord t f p).intake.touched ↔
      (z ∈ s.intake.touched ∨ (s.touchRecord t f p).zone z ≠ s.zone z) := by
  by_cases unlisted : s.Unlisted t p.1
  · simp [touchRecord_of_unlisted unlisted]
  · simp only [Unlisted, not_forall, not_not] at unlisted
    obtain ⟨r, record, listed⟩ := unlisted
    obtain ⟨zone, noted⟩ := touchRecord_of_listed (f := f) record listed
    rw [noted, zone]
    refine or_congr_right ?_
    split
    next same =>
      subst same
      refine (and_iff_right rfl).trans (not_congr ⟨fun h => ?_, fun h => ?_⟩)
      · rw [h, ← record]
      · simpa [record] using congrArg Zone.record h
    next other => simp [other]

theorem record_touchRecord (keeps : KeepsNights f) {z : ZoneId} {r' : NightRecord}
    (record' : ((s.touchRecord t f p).zone z).record = some r') :
    ∃ r, (s.zone z).record = some r ∧ r'.night = r.night ∧ r'.state = r.state := by
  by_cases other : p.1 ≠ z ∨ s.Unlisted t z
  · rw [zone_touchRecord_other other] at record'
    exact ⟨r', record', rfl, rfl⟩
  · simp only [Unlisted, not_or, ne_eq, not_not, not_forall] at other
    obtain ⟨rfl, r, record, listed⟩ := other
    rw [(touchRecord_of_listed record listed).1, if_pos rfl] at record'
    cases record'
    exact ⟨r, record, keeps p.2 r⟩

/-! ### All memberships of a slot in turn -/

/-- The records of the zones of `ps` in turn. -/
def touchAll (s : State) (t : TakenSlot) (f : Dir → NightRecord → NightRecord) (ps : List (ZoneId × Dir)) : State :=
  ps.foldl (fun u p => u.touchRecord t f p) s

variable {ps : List (ZoneId × Dir)}

theorem touchAll_onlyRecords (s : State) (t : TakenSlot) (f : Dir → NightRecord → NightRecord) (ps : List (ZoneId × Dir)) :
    OnlyRecords s (s.touchAll t f ps) := by
  induction ps generalizing s with
  | nil => rfl
  | cons p ps ih => exact (touchRecord_onlyRecords s t f p).trans (ih _)

/-- A zone outside the memberships, or whose record takes no point, is left alone (R71, R77). -/
theorem zone_touchAll_other {z : ZoneId} (h : (∀ p ∈ ps, p.1 ≠ z) ∨ s.Unlisted t z) :
    (s.touchAll t f ps).zone z = s.zone z := by
  induction ps generalizing s with
  | nil => rfl
  | cons p ps ih =>
    have head : (s.touchRecord t f p).zone z = s.zone z := zone_touchRecord_other (h.imp_left fun h => h p List.mem_cons_self)
    refine (ih (h.imp (fun h q hq => h q (List.mem_cons_of_mem p hq)) fun h => ?_)).trans head
    rwa [Unlisted, head]

theorem record_touchAll (keeps : KeepsNights f) {z : ZoneId} {r' : NightRecord}
    (record' : ((s.touchAll t f ps).zone z).record = some r') :
    ∃ r, (s.zone z).record = some r ∧ r'.night = r.night ∧ r'.state = r.state := by
  induction ps generalizing s with
  | nil => exact ⟨r', record', rfl, rfl⟩
  | cons p ps ih =>
    obtain ⟨r₁, record₁, night₁, state₁⟩ := ih record'
    obtain ⟨r, record, night, state⟩ := record_touchRecord keeps record₁
    exact ⟨r, record, night₁.trans night, state₁.trans state⟩

section

variable (distinct : (ps.map (·.1)).Nodup)
include distinct

theorem zone_touchAll_listed (hp : p ∈ ps) {r : NightRecord} (record : (s.zone p.1).record = some r)
    (listed : (p.1, r.night) ∈ t.nights) : (s.touchAll t f ps).zone p.1 = { s.zone p.1 with record := some (f p.2 r) } := by
  induction ps generalizing s with
  | nil => cases hp
  | cons q ps ih =>
    rw [List.map_cons, List.nodup_cons, List.mem_map] at distinct
    obtain ⟨fresh, distinct⟩ := distinct
    rcases List.mem_cons.mp hp with rfl | hp
    · have tail : ((s.touchRecord t f p).touchAll t f ps).zone p.1 = (s.touchRecord t f p).zone p.1 :=
        zone_touchAll_other (.inl fun q hq same => fresh ⟨q, hq, same⟩)
      exact tail.trans (((touchRecord_of_listed record listed).1 p.1).trans (if_pos rfl))
    · have head : (s.touchRecord t f q).zone p.1 = s.zone p.1 :=
        zone_touchRecord_other (.inl fun same => fresh ⟨p, hp, same.symm⟩)
      rw [← head] at record ⊢
      exact ih distinct hp record

theorem touchAll_noted (z : ZoneId) :
    z ∈ (s.touchAll t f ps).intake.touched ↔ (z ∈ s.intake.touched ∨ (s.touchAll t f ps).zone z ≠ s.zone z) := by
  induction ps generalizing s with
  | nil => simp [touchAll]
  | cons p ps ih =>
    rw [List.map_cons, List.nodup_cons, List.mem_map] at distinct
    obtain ⟨fresh, distinct⟩ := distinct
    refine (ih distinct).trans ((or_congr_left (touchRecord_noted s t f p z)).trans ?_)
    show _ ↔ (_ ∨ ((s.touchRecord t f p).touchAll t f ps).zone z ≠ s.zone z)
    by_cases same : p.1 = z
    · have tail : ((s.touchRecord t f p).touchAll t f ps).zone z = (s.touchRecord t f p).zone z :=
        zone_touchAll_other (.inl fun q hq other => fresh ⟨q, hq, other.trans same.symm⟩)
      simp only [tail, ne_eq, not_true_eq_false, or_false]
    · have head : (s.touchRecord t f p).zone z = s.zone z := zone_touchRecord_other (.inl same)
      simp only [head, ne_eq, not_true_eq_false, or_false]

end

theorem touchRecords_eq (s : State) (t : TakenSlot) (f : Dir → NightRecord → NightRecord) :
    s.touchRecords t f = s.touchAll t f (s.meter t.slot).members := rfl

end State

end Sys2Proof.Machine

/-! ## What a point does to a member's coverage, and to a record (R62, R66 to R78) -/

namespace Sys2Proof.Machine

open Sys2Proof Safety

/-! ### Sets of bins -/

theorem getLsbD_noBins (k : Nat) : (0 : W32).getLsbD k = false := BitVec.getLsbD_zero

/-- Bits set one after another. -/
theorem getLsbD_foldl_binBit (P : Nat → Prop) [DecidablePred P] (ks : List Nat) (start : W32) {k : Nat} (hk : k < 32) :
    (ks.foldl (fun m j => if P j then m ||| binBit j else m) start).getLsbD k = true ↔
      (start.getLsbD k = true ∨ (k ∈ ks ∧ P k)) := by
  induction ks generalizing start with
  | nil => simp
  | cons j ks ih =>
    have bit : (binBit j).getLsbD k = true ↔ k = j := by
      rw [binBit, ← BitVec.twoPow_eq, BitVec.getLsbD_twoPow, Bool.and_eq_true, decide_eq_true_iff, decide_eq_true_iff]
      omega
    rw [List.foldl_cons, ih, List.mem_cons]
    split
    next holds =>
      rw [BitVec.getLsbD_or, Bool.or_eq_true, bit]
      exact ⟨by rintro ((h | rfl) | h) <;> simp_all, by rintro (h | ⟨rfl | h, hP⟩) <;> simp_all⟩
    next fails => exact or_congr_right ⟨fun h => ⟨.inr h.1, h.2⟩, by rintro ⟨rfl | h, hP⟩ <;> simp_all⟩

namespace Grid

variable (g : Grid) (night : Nat) {k : Nat} (hk : k < 32)
include hk

theorem getLsbD_binsIn (a b : Nat) : (g.binsIn night a b).getLsbD k = true ↔ BinOverlaps g night k a b := by
  refine (getLsbD_foldl_binBit _ _ _ hk).trans ?_
  simp only [getLsbD_noBins, Bool.false_eq_true, false_or, List.mem_range, overlap, BinOverlaps, Nat.sub_pos_iff_lt]

/-- The bins of the hole (R78), by the coverage before it. -/
theorem getLsbD_hole (e : Member) (t0 : Nat) : (g.hole night e t0).getLsbD k = true ↔ InHole g night e t0 k := by
  unfold hole InHole
  cases e.reach with
  | none =>
    simp only [reduceCtorEq, false_and, exists_false, or_false, true_and, Bool.and_self, decide_eq_true_iff]
    split
    next before => simp only [before, true_and, g.getLsbD_binsIn night hk]
    next before => simp only [before, false_and, getLsbD_noBins, Bool.false_eq_true]
  | some x =>
    simp only [reduceCtorEq, false_and, false_or, Option.some.injEq, exists_eq_left', Bool.and_eq_true, decide_eq_true_iff,
      Nat.max_lt]
    split
    next before => simp only [before, true_and, g.getLsbD_binsIn night hk]
    next before =>
      simp only [getLsbD_noBins, Bool.false_eq_true, false_iff]
      exact fun h => before ⟨h.1, h.1, h.2.1⟩

end Grid

/-! ### One member entry -/

/-- A change of member entries that brings coverage to `reach` and adds the bins of `gap` (R76, R77). -/
def Covers (reach : Nat) (gap : Member → Nat → Prop) (f : Member → Member) : Prop :=
  ∀ e, (f e).slot = e.slot ∧ (f e).dir = e.dir ∧ (f e).reach = some (max (e.reach.getD 0) reach) ∧
    ∀ k, k < 32 → ((f e).gaps.getLsbD k = true ↔ (e.gaps.getLsbD k = true ∨ gap e k))

theorem covers_advance {reach : Nat} {gap : Member → Nat → Prop} {bins : Member → W32}
    (h : ∀ e k, k < 32 → ((bins e).getLsbD k = true ↔ gap e k)) :
    Covers reach gap fun e => (e.addGaps (bins e)).advance reach := by
  refine fun e => ⟨rfl, rfl, ?_, fun k hk => ?_⟩
  · obtain ⟨slot, dir, before, gaps⟩ := e
    cases before with
    | none => exact congrArg some (Nat.zero_max reach).symm
    | some x => rfl
  · show (e.gaps ||| bins e).getLsbD k = true ↔ _
    rw [BitVec.getLsbD_or, Bool.or_eq_true, h e k hk]

section

variable {g : Grid} {night t0 t1 : Nat}

theorem covers_coverFirst : Covers (min t1 (g.we night)) (firstGap g t1 night) (g.coverFirst night t1) := by
  have shape : g.coverFirst night t1 = fun e => (e.addGaps (if g.ws night < t1 then
      g.binsIn night (g.ws night) (min t1 (g.we night)) else 0)).advance (min t1 (g.we night)) := by
    funext e
    unfold Grid.coverFirst
    split
    · rfl
    · rw [Member.addGaps, show e.gaps ||| 0 = e.gaps from BitVec.or_zero]
  rw [shape]
  refine covers_advance fun e k hk => ?_
  unfold firstGap
  split
  next before => simp only [g.getLsbD_binsIn night hk, before, true_and]
  next before => simp only [before, false_and, getLsbD_noBins, Bool.false_eq_true]

theorem covers_gapSpan : Covers (min t1 (g.we night)) (spanGap g t0 t1 night) (g.gapSpan night t0 t1) := by
  have shape : g.gapSpan night t0 t1 = fun e =>
      (e.addGaps (g.hole night e t0 ||| g.binsIn night t0 t1)).advance (min t1 (g.we night)) := by
    funext e
    simp only [Grid.gapSpan, Member.addGaps, BitVec.or_assoc]
  rw [shape]
  refine covers_advance fun e k hk => ?_
  rw [BitVec.getLsbD_or, Bool.or_eq_true, g.getLsbD_hole night hk, g.getLsbD_binsIn night hk]
  rfl

theorem covers_coverSpan : Covers (min t1 (g.we night)) (holeGap g t0 night) (g.coverSpan night t0 t1) :=
  covers_advance fun e _ hk => g.getLsbD_hole night hk e t0

theorem covers_coverResume : Covers (min t1 (g.we night)) (resumeGap g t0 t1 night) (g.coverResume night t0 t1) :=
  covers_advance fun _ _ hk => g.getLsbD_binsIn night hk t0 t1

end

/-! ### One record -/

section

variable {g : Grid} {m : SlotId} {d : Dir} {t1 : Nat} {gap : Gap} {r : NightRecord} {f : Member → Member}
  (covers : Covers (min t1 (g.we r.night)) (gap r.night) f)
include covers

theorem memberTakes_modMember :
    List.Forall₂ (MemberTakes m (min t1 (g.we r.night)) (gap r.night)) r.members (r.modMember m f).members := by
  refine List.forall₂_map_right_iff.mpr (List.forall₂_same.mpr fun e _ => ?_)
  obtain ⟨slot, covered⟩ := covers e
  refine ⟨fun other => if_neg other, fun own => ?_⟩
  rw [if_pos own]
  exact ⟨slot.trans own, covered⟩

theorem recordTakes_modMember : RecordTakes g m d t1 gap none r (r.modMember m f) where
  rest := rfl
  members := memberTakes_modMember covers
  gathered _ := rfl
  shared _ hv := nomatch hv

theorem recordTakes_addShares {vs : List Nat} {v : Nat → Nat → Nat} (count : vs.length = g.binCount)
    (shares : ∀ k, k < g.binCount → vs[k]? = some (v r.night k)) :
    RecordTakes g m d t1 gap (some v) r ((r.modMember m f).addShares d vs) where
  rest := rfl
  members := memberTakes_modMember covers
  gathered hv := nomatch hv
  shared := by
    rintro _ ⟨⟩ full
    refine ⟨(List.length_zipWith ..).trans (by rw [count]; exact Nat.min_eq_left full.le), fun k b hb => ?_⟩
    have below : k < g.binCount := full ▸ (List.getElem?_eq_some_iff.mp hb).1
    refine (List.getElem?_zipWith_eq_some.mpr ⟨b, v r.night k, hb, shares k below, rfl⟩).trans ?_
    cases d <;> rfl

end

/-- The shares of a span of any length, as the intake adds them (R72, R73). -/
theorem getElem?_spanShares (g : Grid) (night volume t0 t1 : Nat) {k : Nat} (hk : k < g.binCount) :
    (if t0 = t1 then g.pointShares night volume t1 else g.shares night volume t0 t1)[k]? =
      some (shareOf g volume t0 t1 night k) := by
  unfold shareOf
  split
  next =>
    rw [Grid.pointShares, List.getElem?_map, List.getElem?_range hk]
    simp only [Option.map_some, Bool.and_eq_true, decide_eq_true_iff]
  next => exact Grid.getElem?_shares volume (fun _ => rfl) hk

theorem length_spanShares (g : Grid) (night volume t0 t1 : Nat) :
    (if t0 = t1 then g.pointShares night volume t1 else g.shares night volume t0 t1).length = g.binCount := by
  split
  · rw [Grid.pointShares, List.length_map, List.length_range]
  · exact g.length_shares night volume t0 t1

end Sys2Proof.Machine

/-! ## What a point does to the records of its slot's zones -/

namespace Sys2Proof.Machine

open Sys2Proof Safety

/-- The records that taken slot t lists are those of its zones that `accepts` holds of (R62, R71). -/
def State.Reads (s : State) (t : TakenSlot) (accepts : ZoneId → NightRecord → Prop) : Prop :=
  ∀ q ∈ (s.meter t.slot).members, ∀ r, (s.zone q.1).record = some r → ((q.1, r.night) ∈ t.nights ↔ accepts q.1 r)

namespace State

variable {s : State} {t : TakenSlot}

theorem mem_acceptingNights {m : SlotId} {z : ZoneId} {r : NightRecord} (record : (s.zone z).record = some r) :
    (z, r.night) ∈ s.acceptingNights m ↔ ((∃ q ∈ (s.meter m).members, q.1 = z) ∧ r.state ≠ .closing) := by
  obtain ⟨-, -, nights⟩ := Proofs.readAs_readSlot s m
  refine (nights z r.night).trans (and_congr_right fun _ => ?_)
  simp only [record, Option.some.injEq, exists_eq_left', true_and]

/-- A slot read now lists the records that accept now (R71). -/
theorem reads_of_nights (nights : t.nights = s.acceptingNights t.slot) : s.Reads t Accepting := fun q hq r record => by
  rw [nights, mem_acceptingNights record]
  exact and_iff_right ⟨q, hq, rfl⟩

section

variable {accepts : ZoneId → NightRecord → Prop} (distinct : ((s.meter t.slot).members.map (·.1)).Nodup)
  (reads : s.Reads t accepts) {t1 : Nat} {gap : Gap}
include distinct reads

theorem zonesTake_touchRecords {share : Option (Nat → Nat → Nat)} {f : Dir → NightRecord → NightRecord}
    (takes : ∀ d r, RecordTakes s.time.grid t.slot d t1 gap share r (f d r)) :
    ZonesTake s (s.touchRecords t f) t.slot accepts t1 gap share where
  others z h := by
    refine zone_touchAll_other (Decidable.or_iff_not_imp_left.mpr fun member r record listed => ?_)
    simp only [not_forall, ne_eq, not_not] at member
    obtain ⟨q, hq, rfl⟩ := member
    exact (h.resolve_left fun h => h q hq rfl) r record ((reads q hq r record).mp listed)
  takes q hq r record accepted :=
    ⟨f q.2 r, zone_touchAll_listed distinct hq record ((reads q hq r record).mpr accepted), takes q.2 r⟩
  noted := touchAll_noted distinct

theorem zonesTake_coverFirst : ZonesTake s (s.coverFirst t t1) t.slot accepts t1 (firstGap s.time.grid t1) none :=
  zonesTake_touchRecords distinct reads fun _ _ => recordTakes_modMember covers_coverFirst

theorem zonesTake_coverGap (t0 : Nat) : ZonesTake s (s.coverGap t t0 t1) t.slot accepts t1 (spanGap s.time.grid t0 t1) none :=
  zonesTake_touchRecords distinct reads fun _ _ => recordTakes_modMember covers_gapSpan

theorem zonesTake_apportion (volume t0 : Nat) : ZonesTake s (s.apportion t volume t0 t1) t.slot accepts t1
    (holeGap s.time.grid t0) (some (shareOf s.time.grid volume t0 t1)) :=
  zonesTake_touchRecords distinct reads fun _ r => recordTakes_addShares covers_coverSpan
    (length_spanShares s.time.grid r.night volume t0 t1) fun _ hk => getElem?_spanShares s.time.grid r.night volume t0 t1 hk

theorem zonesTake_resumeGap (start : Nat) (c : W32) :
    ZonesTake s (s.resumeGap t start t1 c) t.slot accepts t1 (Safety.resumeGap s.time.grid start t1) none := by
  obtain ⟨others, takes, noted⟩ := zonesTake_touchRecords (f := fun _ n => n.modMember t.slot
    (s.grid.coverResume n.night start t1)) distinct reads fun _ _ => recordTakes_modMember covers_coverResume
  exact ⟨others, takes, noted⟩

end

end State

end Sys2Proof.Machine

namespace Sys2Proof.Safety

open Sys2Proof Machine

variable {s u v : State} {m : SlotId} {accepts : ZoneId → NightRecord → Prop} {t1 : Nat} {gap : Gap}
  {share : Option (Nat → Nat → Nat)}

/-- What the records take shows in the zones and in what the intake notes, and nowhere else. -/
theorem ZonesTake.congr (h : ZonesTake s u m accepts t1 gap share) (zones : v.zones = u.zones)
    (touched : v.intake.touched = u.intake.touched) : ZonesTake s v m accepts t1 gap share where
  others z hz := (Proofs.zone_congr zones z).trans (h.others z hz)
  takes q hq r record accepted := by
    rw [Proofs.zone_congr zones]
    exact h.takes q hq r record accepted
  noted z := by
    rw [touched, Proofs.zone_congr zones]
    exact h.noted z

end Sys2Proof.Safety

/-! ## What a point does to its slot -/

namespace Sys2Proof.Machine

open Sys2Proof Safety

/-- A bound slot becomes `st`, unless it is FAULTED (R55). -/
theorem MeterSlot.become_of_bound {x : MeterSlot} (bound : x.state ≠ .unbound) (st : SlotState) :
    x.become st = { x with state := if x.state = .faulted then .faulted else st } := by
  have isBound := (bound_iff x).mpr bound
  unfold become
  rw [isBound, Bool.not_true, Bool.or_false]
  by_cases faulted : x.state = .faulted
  · rw [if_pos (decide_eq_true faulted), if_pos faulted, ← faulted]
  · rw [if_neg (by simpa using faulted), if_neg faulted]

namespace State

/-! ### A finding about a slot (R143, R144) -/

section

variable (s : State) {m : SlotId} {x : Finding} (subject : x.subject = .meter m)
include subject

theorem zones_offer_meter : (s.offer x).zones = s.zones := by
  unfold offer
  split
  · dsimp only
    split <;> rfl
  · rw [subject]
    rfl

theorem meter_offer_meter (k : SlotId) : (s.offer x).meter k =
    if k = m then { s.meter m with lost := (s.meter m).lost || decide (32 ≤ s.findings.length) } else s.meter k := by
  unfold offer findingsMax
  split
  next room =>
    have kept : ∀ y : MeterSlot, { y with lost := y.lost || decide (32 ≤ s.findings.length) } = y := fun y => by
      rw [decide_eq_false (Nat.not_le.mpr room), Bool.or_false]
    have slots : ∀ k, (if s.findings = [] then (s.setFindings (s.findings ++ [x])).latch flagFinding
        else s.setFindings (s.findings ++ [x])).meter k = s.meter k := fun k => by split <;> rfl
    rw [slots, kept]
    split
    next same => rw [same]
    next => rfl
  next full =>
    rw [subject, decide_eq_true (Nat.not_lt.mp full), Bool.or_true]
    exact meter_modMeter s m k fun y => { y with lost := true }

end

theorem findings_offer (s : State) (x : Finding) :
    (s.offer x).findings = if s.findings.length < 32 then s.findings ++ [x] else s.findings := by
  unfold offer findingsMax
  split
  · dsimp only
    split <;> rfl
  · cases x.subject <;> rfl

theorem intake_offer (s : State) (x : Finding) : (s.offer x).intake = s.intake := by rw [Laws.offer_onlyFault s x]

/-- A finding joins or is lost by the findings and flags before it alone. -/
theorem offer_congr {s u : State} (findings : u.findings = s.findings) (attn : u.attn = s.attn) (x : Finding) :
    (u.offer x).findings = (s.offer x).findings ∧ (u.offer x).attn = (s.offer x).attn := by
  have latched : ∀ (w : State) (flag : Byte), (w.latch flag).attn = { w.attn with latched := w.attn.latched ||| flag } :=
    fun _ _ => rfl
  refine ⟨by rw [findings_offer, findings_offer, findings], ?_⟩
  unfold offer
  rw [findings]
  split
  · dsimp only
    split
    · rw [latched, latched]
      exact congrArg (fun a : Attention => { a with latched := a.latched ||| flagFinding }) attn
    · exact attn
  · rw [latched, latched, attn_markLost, attn_markLost, attn]

end State

end Sys2Proof.Machine

/-! ### The slot's part of a point (R63 to R70) -/

namespace Sys2Proof.Safety

open Sys2Proof Machine

theorem SlotKeeps.members_eq {x y : MeterSlot} (h : SlotKeeps x y) : y.members = x.members := by
  simp only [MeterSlot.members, h.bound_eq, h.binding]

end Sys2Proof.Safety

namespace Sys2Proof.Machine

open Sys2Proof Safety

/-- State u after a point of slot m, with the slot x: what the records take of it, and the findings and flags of w. -/
structure Placed (s w u : State) (m : SlotId) (accepts : ZoneId → NightRecord → Prop) (t1 : Nat) (gap : Gap)
    (share : Option (Nat → Nat → Nat)) (x : MeterSlot) : Prop where
  zones : ZonesTake s u m accepts t1 gap share
  slot : u.meter m = x
  findings : u.findings = w.findings
  attn : u.attn = w.attn

theorem OnlyRecords.placed {s u : State} {m : SlotId} {accepts : ZoneId → NightRecord → Prop} {t1 : Nat} {gap : Gap}
    {share : Option (Nat → Nat → Nat)} (only : OnlyRecords s u) (zones : ZonesTake s u m accepts t1 gap share) :
    Placed s s u m accepts t1 gap share (s.meter m) := by
  have slot : u.meter m = s.meter m := by
    rw [only]
    rfl
  exact ⟨zones, slot, by rw [only], by rw [only]⟩

namespace State

section

variable {s : State} {m : SlotId}

theorem doubtSlot_of_lt (few : (s.meter m).doubt < 2) :
    s.doubtSlot m = s.modMeter m fun x => { x with doubt := x.doubt + 1 } := by
  refine if_neg ?_
  rw [meter_modMeter, if_pos rfl]
  exact Nat.not_le.mpr (Nat.succ_lt_succ few)

theorem doubtSlot_of_le (many : 2 ≤ (s.meter m).doubt) : s.doubtSlot m =
    ((s.modMeter m fun x => { x with doubt := x.doubt + 1 }).modMeter m fun x => { x.become .doubtful with doubt := 3 }).offer
      (meterDoubtFinding m) := by
  refine if_pos ?_
  rw [meter_modMeter, if_pos rfl]
  exact Nat.succ_le_succ many

end

theorem zones_doubtSlot (s : State) (m : SlotId) : (s.doubtSlot m).zones = s.zones := by
  rcases Nat.lt_or_ge (s.meter m).doubt 2 with few | many
  · rw [doubtSlot_of_lt few]
    rfl
  · rw [doubtSlot_of_le many, zones_offer_meter _ rfl]
    rfl

theorem intake_doubtSlot (s : State) (m : SlotId) : (s.doubtSlot m).intake = s.intake := by
  rcases Nat.lt_or_ge (s.meter m).doubt 2 with few | many
  · rw [doubtSlot_of_lt few]
    rfl
  · rw [doubtSlot_of_le many, intake_offer]
    rfl

end State

namespace Placed

open State

variable {s w u : State} {m : SlotId} {accepts : ZoneId → NightRecord → Prop} {t1 : Nat} {gap : Gap}
  {share : Option (Nat → Nat → Nat)} {x : MeterSlot}

theorem modMeter (h : Placed s w u m accepts t1 gap share x) (f : MeterSlot → MeterSlot) :
    Placed s w (u.modMeter m f) m accepts t1 gap share (f x) where
  zones := h.zones.congr rfl rfl
  slot := (meter_modMeter u m m f).trans ((if_pos rfl).trans (congrArg f h.slot))
  findings := h.findings
  attn := h.attn

theorem setPoint (h : Placed s w u m accepts t1 gap share x) (p : Point) :
    Placed s w (u.setPoint m p) m accepts t1 gap share { x with lastPoint := some p } := h.modMeter _

theorem doubtSlot_few (h : Placed s w u m accepts t1 gap share x) (few : x.doubt < 2) :
    Placed s w (u.doubtSlot m) m accepts t1 gap share { x with doubt := x.doubt + 1 } := by
  rw [doubtSlot_of_lt (by rwa [h.slot])]
  exact h.modMeter fun x => { x with doubt := x.doubt + 1 }

theorem become (h : Placed s w u m accepts t1 gap share x) (bound : x.state ≠ .unbound) (st : SlotState) (n : Nat) :
    Placed s w (u.modMeter m fun x => { x.become st with doubt := n }) m accepts t1 gap share
      { x with state := if x.state = .faulted then .faulted else st, doubt := n } := by
  have moved := h.modMeter fun x => { x.become st with doubt := n }
  dsimp only at moved
  rwa [MeterSlot.become_of_bound bound] at moved

/-- At the third implausible span the slot becomes DOUBTFUL with a METER-DOUBT finding (R67). -/
theorem doubtSlot_many (h : Placed s w u m accepts t1 gap share x) (bound : x.state ≠ .unbound) (many : 2 ≤ x.doubt) :
    Placed s (w.offer (meterDoubtFinding m)) (u.doubtSlot m) m accepts t1 gap share
      { x with state := if x.state = .faulted then .faulted else .doubtful
               doubt := 3
               lost := x.lost || decide (32 ≤ w.findings.length) } := by
  have counted := (h.modMeter fun x => { x with doubt := x.doubt + 1 }).become bound .doubtful 3
  obtain ⟨findings, attn⟩ := offer_congr counted.findings counted.attn (meterDoubtFinding m)
  refine ⟨h.zones.congr (zones_doubtSlot u m) (congrArg _ (intake_doubtSlot u m)), ?_, ?_, ?_⟩
  · rw [doubtSlot_of_le (by rwa [h.slot]), meter_offer_meter _ rfl, if_pos rfl, counted.slot, counted.findings]
  · rw [doubtSlot_of_le (by rwa [h.slot]), findings]
  · rw [doubtSlot_of_le (by rwa [h.slot]), attn]

end Placed

/-! ### A point, whatever its records take -/

/-- State u after changes of slot m alone among the slots, which keep its binding. -/
structure Moves (s u : State) (m : SlotId) : Prop where
  others : ∀ k, k ≠ m → u.meter k = s.meter k
  keeps : SlotKeeps (s.meter m) (u.meter m)

theorem Moves.trans {s u v : State} {m : SlotId} (h : Moves s u m) (h' : Moves u v m) : Moves s v m :=
  ⟨fun k hk => (h'.others k hk).trans (h.others k hk), h.keeps.trans h'.keeps⟩

theorem OnlyRecords.moves {s u : State} (only : OnlyRecords s u) (m : SlotId) : Moves s u m := by
  have same : ∀ k, u.meter k = s.meter k := fun k => by
    rw [only]
    rfl
  exact ⟨fun k _ => same k, by rw [same]; exact .refl _⟩

namespace Moves

open State

variable {s u : State} {m : SlotId}

theorem modMeter (h : Moves s u m) {f : MeterSlot → MeterSlot} (hf : ∀ x, SlotKeeps x (f x)) :
    Moves s (u.modMeter m f) m where
  others k hk := (meter_modMeter u m k f).trans ((if_neg hk).trans (h.others k hk))
  keeps := by
    rw [meter_modMeter, if_pos rfl]
    exact h.keeps.trans (hf _)

theorem setPoint (h : Moves s u m) (p : Point) : Moves s (u.setPoint m p) m := h.modMeter fun _ => ⟨.rfl, rfl⟩

theorem become (h : Moves s u m) {st : SlotState} (hst : st ≠ .unbound) (n : Nat) :
    Moves s (u.modMeter m fun x => { x.become st with doubt := n }) m :=
  h.modMeter fun x => (SlotKeeps.become x hst).trans ⟨.rfl, rfl⟩

theorem doubtSlot (h : Moves s u m) : Moves s (u.doubtSlot m) m := by
  have counted : Moves s (u.modMeter m fun x => { x with doubt := x.doubt + 1 }) m := h.modMeter fun _ => ⟨.rfl, rfl⟩
  rcases Nat.lt_or_ge (u.meter m).doubt 2 with few | many
  · rw [doubtSlot_of_lt few]
    exact counted
  · rw [doubtSlot_of_le many]
    obtain ⟨others, keeps⟩ := counted.become (st := .doubtful) (by decide) 3
    refine ⟨fun k hk => ?_, ?_⟩
    · rw [meter_offer_meter _ rfl, if_neg hk, others k hk]
    · rw [meter_offer_meter _ rfl, if_pos rfl]
      exact keeps.trans ⟨.rfl, rfl⟩

end Moves

/-! ### Where a point goes (R63, R64, R67) -/

namespace State

section

variable {s : State} {t : TakenSlot} {p q : Point}

theorem takePoint_of_awaiting (h : t.state = .awaiting) : s.takePoint t p = (s.firstReading t p, .first) := by
  simp only [takePoint, h]

/-- A point that anchors its slot: the slot has no last point (log 28), or a pulse point is earlier than it (R63). -/
theorem takePoint_of_anchor (h : t.state = .live ∨ t.state = .doubtful)
    (anchors : (s.meter t.slot).lastPoint = none ∨
      ∃ q, (s.meter t.slot).lastPoint = some q ∧ isPulse (s.meter t.slot).binding = true ∧ p.time < q.time) :
    (s.takePoint t p).1 = (s.coverFirst t p.time).setPoint t.slot p := by
  obtain absent | ⟨q, last, pulse, earlier⟩ := anchors
  · rcases h with h | h <;> simp only [takePoint, h, absent]
  · rcases h with h | h <;> simp only [takePoint, h, last, pulse, earlier, decide_true, Bool.and_self, if_true]

section

variable (onward : isPulse (s.meter t.slot).binding = false ∨ q.time ≤ p.time)
include onward

theorem not_reanchors : ¬(isPulse (s.meter t.slot).binding && decide (p.time < q.time)) = true := by
  simpa [imp_iff_not_or] using onward

variable (last : (s.meter t.slot).lastPoint = some q)
include last

theorem takePoint_of_doubtful (h : t.state = .doubtful) :
    s.takePoint t p = ((s.coverGap t q.time p.time).setPoint t.slot p, .doubtful) := by
  simp only [takePoint, h, last]
  exact if_neg (not_reanchors onward)

theorem takePoint_of_live (h : t.state = .live) : s.takePoint t p = s.livePoint t q p := by
  simp only [takePoint, h, last]
  exact if_neg (not_reanchors onward)

end

theorem livePoint_of_long (remote : isPulse (s.meter t.slot).binding = false)
    (long : s.time.grid.spanLimit < p.time - q.time) :
    s.livePoint t q p = ((s.coverGap t q.time p.time).setPoint t.slot p, .withheld) := by
  refine if_pos ?_
  rw [remote, Bool.not_false, Bool.true_and, decide_eq_true_iff]
  exact long

section

variable (short : isPulse (s.meter t.slot).binding = true ∨ p.time - q.time ≤ s.time.grid.spanLimit)
include short

theorem not_withheld : ¬(!isPulse (s.meter t.slot).binding && decide (s.time.grid.spanLimit < p.time - q.time)) = true := by
  simpa [imp_iff_not_or] using short

theorem livePoint_of_implausible (later : q.time < p.time)
    (large : implausible (s.meter t.slot).binding (spanVolume (s.meter t.slot).binding q.value p.value)
      (p.time - q.time) = true) :
    s.livePoint t q p = (((s.coverGap t q.time p.time).doubtSlot t.slot).setPoint t.slot p, .implausible) := by
  refine (if_neg (not_withheld short)).trans (if_pos ?_)
  rw [large, Bool.and_true, decide_eq_true_iff]
  exact Nat.sub_pos_of_lt later

/-- A span that is apportioned: plausible, or of length 0 (R67, R72, R73, R75). -/
theorem livePoint_of_plausible {volume : Nat} (hv : volume = spanVolume (s.meter t.slot).binding q.value p.value)
    (plausible : p.time ≤ q.time ∨ implausible (s.meter t.slot).binding volume (p.time - q.time) = false) :
    s.livePoint t q p =
      (if q.time < p.time then
        ((s.apportion t volume q.time p.time).setPoint t.slot p).modMeter t.slot fun x => { x with doubt := 0 }
      else (s.apportion t volume q.time p.time).setPoint t.slot p,
      if s.lateSpan t.slot q.time p.time then .late else .applied) := by
  subst hv
  refine (if_neg (not_withheld short)).trans ((if_neg ?_).trans ?_)
  · rcases plausible with zero | small
    · simp [Nat.sub_eq_zero_of_le zero]
    · simp [small]
  · simp only [Nat.sub_pos_iff_lt]

end

end

/-! ### What every point does (R55, R70) -/

/-- State u after the slot's part of a point p of slot m, whose records' part led to v. -/
inductive SlotPart (v : State) (m : SlotId) (p : Point) : State → Prop
  | anchored : SlotPart v m p (v.setPoint m p)
  | first : SlotPart v m p ((v.modMeter m fun x => { x.become .live with doubt := 0 }).setPoint m p)
  | doubted : SlotPart v m p ((v.doubtSlot m).setPoint m p)
  | settled : SlotPart v m p ((v.setPoint m p).modMeter m fun x => { x with doubt := 0 })

namespace SlotPart

variable {v u : State} {m : SlotId} {p : Point} (h : SlotPart v m p u)
include h

theorem zones_eq : u.zones = v.zones := by
  cases h with
  | doubted => exact zones_doubtSlot v m
  | _ => rfl

theorem lastPoint_eq : (u.meter m).lastPoint = some p := by
  cases h with
  | settled => rw [meter_modMeter, if_pos rfl, setPoint, meter_modMeter, if_pos rfl]
  | _ => rw [setPoint, meter_modMeter, if_pos rfl]

theorem moves {s : State} (before : Moves s v m) : Moves s u m := by
  cases h with
  | anchored => exact before.setPoint p
  | first => exact (before.become (by decide) 0).setPoint p
  | doubted => exact before.doubtSlot.setPoint p
  | settled => exact (before.setPoint p).modMeter fun _ => ⟨.rfl, rfl⟩

end SlotPart

theorem livePoint_slotPart (s : State) (t : TakenSlot) (q p : Point) :
    ∃ f, SlotPart (s.touchRecords t f) t.slot p (s.livePoint t q p).1 ∧ KeepsNights f := by
  unfold livePoint
  dsimp only
  split
  · exact ⟨_, .anchored, fun _ _ => ⟨rfl, rfl⟩⟩
  · split
    · exact ⟨_, .doubted, fun _ _ => ⟨rfl, rfl⟩⟩
    · dsimp only
      split
      · exact ⟨_, .settled, fun _ _ => ⟨rfl, rfl⟩⟩
      · exact ⟨_, .anchored, fun _ _ => ⟨rfl, rfl⟩⟩

/-- A point changes nothing, or the records of its slot's zones and then the slot. -/
theorem takePoint_cases (s : State) (t : TakenSlot) (p : Point) :
    ((s.takePoint t p).1 = s ∧ (t.state = .unbound ∨ t.state = .faulted)) ∨
      ∃ f, SlotPart (s.touchRecords t f) t.slot p (s.takePoint t p).1 ∧ KeepsNights f := by
  cases state : t.state with
  | unbound => exact .inl ⟨by simp only [takePoint, state], .inl rfl⟩
  | faulted => exact .inl ⟨by simp only [takePoint, state], .inr rfl⟩
  | awaiting =>
    rw [takePoint_of_awaiting state]
    exact .inr ⟨_, .first, fun _ _ => ⟨rfl, rfl⟩⟩
  | live =>
    refine .inr ?_
    cases last : (s.meter t.slot).lastPoint with
    | none =>
      rw [takePoint_of_anchor (.inl state) (.inl last)]
      exact ⟨_, .anchored, fun _ _ => ⟨rfl, rfl⟩⟩
    | some q =>
      simp only [takePoint, state, last]
      split
      · exact ⟨_, .anchored, fun _ _ => ⟨rfl, rfl⟩⟩
      · exact livePoint_slotPart s t q p
  | doubtful =>
    refine .inr ?_
    cases last : (s.meter t.slot).lastPoint with
    | none =>
      rw [takePoint_of_anchor (.inr state) (.inl last)]
      exact ⟨_, .anchored, fun _ _ => ⟨rfl, rfl⟩⟩
    | some q =>
      simp only [takePoint, state, last]
      split
      · exact ⟨_, .anchored, fun _ _ => ⟨rfl, rfl⟩⟩
      · exact ⟨_, .anchored, fun _ _ => ⟨rfl, rfl⟩⟩

/-- A zone outside the slot's memberships, or whose record takes no point, is left alone (R71, R77). -/
theorem zone_takePoint_other {s : State} {t : TakenSlot} {z : ZoneId}
    (h : (∀ q ∈ (s.meter t.slot).members, q.1 ≠ z) ∨ s.Unlisted t z) (p : Point) :
    (s.takePoint t p).1.zone z = s.zone z := by
  obtain ⟨same, -⟩ | ⟨f, part, -⟩ := s.takePoint_cases t p
  · rw [same]
  · exact (Proofs.zone_congr part.zones_eq z).trans (zone_touchAll_other h)

section

variable {s : State} {t : TakenSlot} (takes : t.state = .awaiting ∨ t.state = .live ∨ t.state = .doubtful) (p : Point)
include takes

theorem slotPart_takePoint : ∃ f, SlotPart (s.touchRecords t f) t.slot p (s.takePoint t p).1 ∧ KeepsNights f := by
  refine (s.takePoint_cases t p).resolve_left ?_
  rintro ⟨-, state | state⟩ <;> simp [state] at takes

theorem lastPoint_takePoint : ((s.takePoint t p).1.meter t.slot).lastPoint = some p := by
  obtain ⟨f, part, -⟩ := slotPart_takePoint (s := s) takes p
  exact part.lastPoint_eq

theorem moves_takePoint : Moves s (s.takePoint t p).1 t.slot := by
  obtain ⟨f, part, -⟩ := slotPart_takePoint (s := s) takes p
  exact part.moves ((touchAll_onlyRecords s t f _).moves t.slot)

/-- A record after a point is one that was open before it, of the same night and in the same state. -/
theorem record_takePoint {z : ZoneId} {r' : NightRecord} (record' : ((s.takePoint t p).1.zone z).record = some r') :
    ∃ r, (s.zone z).record = some r ∧ r'.night = r.night ∧ r'.state = r.state := by
  obtain ⟨f, part, keeps⟩ := slotPart_takePoint (s := s) takes p
  rw [Proofs.zone_congr part.zones_eq] at record'
  exact record_touchAll keeps record'

end

end State

end Sys2Proof.Machine

namespace Sys2Proof.Proofs

open Sys2Proof Machine Safety

/-- Settles O27: a CLOSING record is not listed when the slot is read, and the other zones are outside the memberships. -/
theorem closingRecordsTakeNothing : Obligations.ClosingRecordsTakeNothing := by
  intro s m p z r record closed
  have other : (∀ q ∈ (s.meter m).members, q.1 ≠ z) ∨ s.Unlisted (s.readSlot m) z := by
    refine closed.symm.imp id fun closing r' record' listed => ?_
    obtain rfl : r = r' := Option.some.inj (record.symm.trans record')
    exact ((State.mem_acceptingNights record).mp listed).2 closing
  rw [State.zone_takePoint_other other p, record]

end Sys2Proof.Proofs

/-! ## Pairs of a reading (R58, R59, R75) -/

namespace Sys2Proof.Machine

open Sys2Proof Safety

/-! ### Late volume (R71, R75) -/

/-- The latest night before `night` whose window starts before t1 decides for all of them (R71). -/
theorem Grid.overlapsEarlier_iff (g : Grid) (night : Nat) {t0 t1 : Nat} (span : t0 < t1) :
    g.overlapsEarlier night t0 t1 = true ↔ ∃ n, n < night ∧ g.ws n < t1 ∧ t0 < g.we n := by
  have monotone : ∀ {a b : Nat}, a ≤ b → g.ws a ≤ g.ws b := fun h => by unfold ws Config.daySeconds; omega
  unfold overlapsEarlier
  split
  next possible =>
    simp only [Bool.and_eq_true, decide_eq_true_iff] at possible
    simp only [decide_eq_true_iff]
    obtain ⟨⟨-, starts⟩, earlier⟩ := possible
    have before : ∀ n, g.ws n < t1 ↔ n ≤ (t1 - 1 - g.windowStart) / Config.daySeconds := fun n => by
      unfold ws Config.daySeconds
      omega
    constructor
    · exact fun late => ⟨_, by omega, (before _).mpr (Nat.min_le_right ..), late⟩
    · rintro ⟨n, hn, start, late⟩
      exact late.trans_le (Nat.add_le_add_right (monotone (Nat.le_min.mpr ⟨by omega, (before n).mp start⟩)) _)
  next impossible =>
    simp only [Bool.and_eq_true, decide_eq_true_iff] at impossible
    refine iff_of_false Bool.false_ne_true ?_
    rintro ⟨n, hn, start, -⟩
    have := monotone (Nat.zero_le n)
    refine impossible ⟨⟨span, ?_⟩, by omega⟩
    unfold ws at this start
    omega

theorem State.lateSpan_iff (s : State) (m : SlotId) {t0 t1 : Nat} (span : t0 < t1) :
    s.lateSpan m t0 t1 = true ↔ Late s m t0 t1 := by
  simp only [lateSpan, List.any_eq_true, Late]
  refine exists_congr fun q => and_congr_right fun _ => ?_
  cases (s.zone q.1).record with
  | none => simp
  | some r =>
    simp only [Grid.lateFor, if_neg span.ne, Bool.or_eq_true, Bool.and_eq_true, decide_eq_true_iff, Bool.not_eq_true',
      Option.some.injEq, exists_eq_left', Grid.overlapsEarlier_iff _ _ span, NightRecord.accepting, bne_eq_false_iff_eq,
      overlap, Nat.sub_pos_iff_lt]
    rfl

/-! ### The tests of a pair (R58) -/

section

variable {x : MeterSlot} {now offset : Nat} {p : Pair} {q : Point}

theorem pairRefusal_of_large (large : 10 ^ x.binding.digits.toNat ≤ p.index.toNat) :
    pairRefusal x now p offset = some (.range, offset) := if_pos large

variable (fits : p.index.toNat < 10 ^ x.binding.digits.toNat)
include fits

theorem pairRefusal_of_tooNew (tooNew : now + 300 < p.time.toNat) : pairRefusal x now p offset = some (.tooNew, 0) :=
  (if_neg (Nat.not_le.mpr fits)).trans (if_pos tooNew)

variable (timely : p.time.toNat ≤ now + 300)
include timely

theorem pairRefusal_of_order (last : x.lastPoint = some q) (earlier : p.time.toNat < q.time) :
    pairRefusal x now p offset = some (.order, 0) := by
  refine (if_neg (Nat.not_le.mpr fits)).trans ((if_neg (Nat.not_lt.mpr timely)).trans ?_)
  rw [last]
  exact if_pos earlier

theorem pairRefusal_of_conflict (last : x.lastPoint = some q) (same : p.time.toNat = q.time) (differs : p.index ≠ q.value) :
    pairRefusal x now p offset = some (.conflict, 0) := by
  refine (if_neg (Nat.not_le.mpr fits)).trans ((if_neg (Nat.not_lt.mpr timely)).trans ?_)
  rw [last]
  exact (if_neg same.not_lt).trans (if_pos (by simp [same, differs]))

/-- A pair passes when it is later than the last point, or repeats it. -/
theorem pairRefusal_of_onward
    (onward : ∀ q, x.lastPoint = some q → q.time < p.time.toNat ∨ q = ⟨p.time.toNat, p.index⟩) :
    pairRefusal x now p offset = none := by
  refine (if_neg (Nat.not_le.mpr fits)).trans ((if_neg (Nat.not_lt.mpr timely)).trans ?_)
  cases last : x.lastPoint with
  | none => rfl
  | some q =>
    refine (if_neg ?_).trans (if_neg ?_)
    · rcases onward q last with later | rfl
      · exact later.le.not_gt
      · exact Nat.lt_irrefl _
    · rcases onward q last with later | rfl
      · simp [later.ne']
      · simp

end

/-! ### The next pair of the job in hand -/

namespace State

section

variable {s : State} {j : ReadingJob} {p : Pair} {rest : List Pair} {m : SlotId} (hand : s.intake.hand = .reading j)
  (going : j.ended = none) (todo : j.todo = p :: rest) (slot : j.slot.toNat = m.val)
include hand going todo slot

theorem readingPair_of_faulted (faulted : (s.meter m).state = .faulted) :
    s.readingPair = s.setJob { j with ended := some (.faulted, 0) } := by
  simp only [readingPair, hand, going, todo, readPair, Proofs.slotOf_eq_some slot, faulted, if_true]

variable (sound : (s.meter m).state ≠ .faulted)
include sound

theorem readingPair_of_refused {e : Status × Nat}
    (refused : pairRefusal (s.meter m) s.time.partTime p j.indexOffset = some e) :
    s.readingPair = s.setJob { j with ended := some e } := by
  have tests : pairRefusal (s.meter m) s.now p j.indexOffset = some e := refused
  simp only [readingPair, hand, going, todo, readPair, Proofs.slotOf_eq_some slot, if_neg sound, tests]

section

variable (passes : pairRefusal (s.meter m) s.time.partTime p j.indexOffset = none)
include passes

theorem readingPair_of_taken :
    s.readingPair = (s.takePair m p).1.setJob (j.took rest (s.takePair m p).2) := by
  have tests : pairRefusal (s.meter m) s.now p j.indexOffset = none := passes
  simp only [readingPair, hand, going, todo, readPair, Proofs.slotOf_eq_some slot, if_neg sound, tests]

theorem readingPair_of_repeat (repeats : (s.meter m).lastPoint = some ⟨p.time.toNat, p.index⟩) :
    s.readingPair = s.setJob (j.took rest .duplicate) := by
  have taken : s.takePair m p = (s, .duplicate) := if_pos (by simp [pairRepeats, repeats])
  rw [readingPair_of_taken hand going todo slot sound passes, taken]

/-- A pair that does not repeat the last point is a new point (R64). -/
theorem readingPair_of_new (new : (s.meter m).lastPoint ≠ some ⟨p.time.toNat, p.index⟩) {u : State} {o : PairOutcome}
    (point : s.takePoint (s.readSlot m) ⟨p.time.toNat, p.index⟩ = (u, o)) : s.readingPair = u.setJob (j.took rest o) := by
  have taken : s.takePair m p = (u, o) := (if_neg (by simp [pairRepeats, new])).trans point
  rw [readingPair_of_taken hand going todo slot sound passes, taken]

end

/-- A pair for a slot without a last point, or later than it, that passes its tests. -/
theorem readingPair_of_later (fits : p.index.toNat < 10 ^ (s.meter m).binding.digits.toNat)
    (timely : p.time.toNat ≤ s.time.partTime + 300) (later : ∀ q, (s.meter m).lastPoint = some q → q.time < p.time.toNat)
    {u : State} {o : PairOutcome} (point : s.takePoint (s.readSlot m) ⟨p.time.toNat, p.index⟩ = (u, o)) :
    s.readingPair = u.setJob (j.took rest o) :=
  readingPair_of_new hand going todo slot sound (pairRefusal_of_onward fits timely fun q last => .inl (later q last))
    (fun last => Nat.lt_irrefl _ (later _ last)) point

end

/-! ### What a point does to records and slot together -/

section

variable {s : State} {t : TakenSlot} {accepts : ZoneId → NightRecord → Prop}
  (distinct : ((s.meter t.slot).members.map (·.1)).Nodup) (reads : s.Reads t accepts) {t1 : Nat}
include distinct reads

theorem placed_coverFirst :
    Placed s s (s.coverFirst t t1) t.slot accepts t1 (firstGap s.time.grid t1) none (s.meter t.slot) :=
  (touchAll_onlyRecords s t _ _).placed (zonesTake_coverFirst distinct reads)

theorem placed_coverGap (t0 : Nat) :
    Placed s s (s.coverGap t t0 t1) t.slot accepts t1 (spanGap s.time.grid t0 t1) none (s.meter t.slot) :=
  (touchAll_onlyRecords s t _ _).placed (zonesTake_coverGap distinct reads t0)

theorem placed_apportion (volume t0 : Nat) : Placed s s (s.apportion t volume t0 t1) t.slot accepts t1
    (holeGap s.time.grid t0) (some (shareOf s.time.grid volume t0 t1)) (s.meter t.slot) :=
  (touchAll_onlyRecords s t _ _).placed (zonesTake_apportion distinct reads volume t0)

end

end State

end Sys2Proof.Machine

namespace Sys2Proof.Proofs

open Sys2Proof Machine Safety Laws

section

variable {s w u : State} {j : ReadingJob} {m : SlotId} {p : Point} {o : PairOutcome} {gap : Gap}
  {share : Option (Nat → Nat → Nat)} {x : MeterSlot} (read : s.readingPair = u.setJob j)
  (point : s.takePoint (s.readSlot m) p = (u, o))
  (sound : (s.meter m).state = .awaiting ∨ (s.meter m).state = .live ∨ (s.meter m).state = .doubtful)
  (placed : Placed s w u m Accepting p.time gap share x)
include read point sound placed

/-- The pair in hand, taken as a new point of slot m. -/
theorem exec_readingPair_new : ∃ t, exec .readingPair s = .next t ∧
    t = { s with meters := t.meters, zones := t.zones, intake := t.intake, findings := t.findings, attn := t.attn } ∧
    t.intake.hand = .reading j ∧ (∀ k, k ≠ m → t.meter k = s.meter k) ∧
    ZonesTake s t m Accepting p.time gap share ∧ t.findings = w.findings ∧ t.attn = w.attn ∧ t.meter m = x := by
  have only : OnlyPoint s u := by
    have only := takePoint_onlyPoint s (s.readSlot m) p
    rwa [point] at only
  have moves : Moves s u m := by
    have moves := State.moves_takePoint (s := s) (t := s.readSlot m) sound p
    rwa [point] at moves
  exact ⟨_, congrArg Host.Outcome.next (read.trans (congrArg (State.setJob · j) only)), rfl, rfl, moves.others,
    placed.zones.congr rfl rfl, placed.findings, placed.attn, placed.slot⟩

/-- The same, where no finding is made and no flag latches. -/
theorem exec_readingPair_quiet (quiet : w = s) : ∃ t, exec .readingPair s = .next t ∧
    t = { s with meters := t.meters, zones := t.zones, intake := t.intake } ∧
    t.intake.hand = .reading j ∧ (∀ k, k ≠ m → t.meter k = s.meter k) ∧ t.meter m = x ∧
    ZonesTake s t m Accepting p.time gap share := by
  obtain ⟨t, taken, frame, hand, others, zones, findings, attn, slot⟩ := exec_readingPair_new read point sound placed
  rw [quiet] at findings attn
  rw [findings, attn] at frame
  exact ⟨t, taken, frame, hand, others, slot, zones⟩

end

/-- The pair in hand, taken as a new point of slot m that makes an implausible span (R67, R144). -/
theorem exec_readingPair_implausible {s v : State} {j : ReadingJob} {m : SlotId} {p : Point} {gap : Gap}
    (read : s.readingPair = ((v.doubtSlot m).setPoint m p).setJob j)
    (point : s.takePoint (s.readSlot m) p = ((v.doubtSlot m).setPoint m p, .implausible))
    (live : (s.meter m).state = .live) (placed : Placed s s v m Accepting p.time gap none (s.meter m)) :
    ∃ t, exec .readingPair s = .next t ∧
      t = { s with meters := t.meters, zones := t.zones, intake := t.intake, findings := t.findings, attn := t.attn } ∧
      t.intake.hand = .reading j ∧ (∀ k, k ≠ m → t.meter k = s.meter k) ∧
      ZonesTake s t m Accepting p.time gap none ∧
      ((s.meter m).doubt < 2 → t.findings = s.findings ∧
        t.meter m = { s.meter m with doubt := (s.meter m).doubt + 1, lastPoint := some p }) ∧
      (2 ≤ (s.meter m).doubt → s.findings.length < 32 → t.findings = s.findings ++ [meterDoubtFinding m] ∧
        t.meter m = { s.meter m with state := .doubtful, doubt := 3, lastPoint := some p }) ∧
      (2 ≤ (s.meter m).doubt → 32 ≤ s.findings.length → t.findings = s.findings ∧
        t.meter m = { s.meter m with state := .doubtful, doubt := 3, lastPoint := some p, lost := true }) := by
  rcases Nat.lt_or_ge (s.meter m).doubt 2 with few | many
  · obtain ⟨t, taken, frame, hand, others, zones, findings, -, slot⟩ :=
      exec_readingPair_new read point (.inr (.inl live)) ((placed.doubtSlot_few few).setPoint p)
    exact ⟨t, taken, frame, hand, others, zones, fun _ => ⟨findings, slot⟩,
      fun many => absurd few (Nat.not_lt.mpr many), fun many => absurd few (Nat.not_lt.mpr many)⟩
  · have bound : (s.meter m).state ≠ .unbound := fun unbound => nomatch live.symm.trans unbound
    have sound : (s.meter m).state ≠ .faulted := fun faulted => nomatch live.symm.trans faulted
    obtain ⟨t, taken, frame, hand, others, zones, findings, -, slot⟩ :=
      exec_readingPair_new read point (.inr (.inl live)) ((placed.doubtSlot_many bound many).setPoint p)
    rw [State.findings_offer] at findings
    rw [if_neg sound] at slot
    refine ⟨t, taken, frame, hand, others, zones, fun few => absurd few (Nat.not_lt.mpr many), fun _ room => ?_,
      fun _ full => ?_⟩
    · rw [decide_eq_false (Nat.not_le.mpr room), Bool.or_false] at slot
      exact ⟨findings.trans (if_pos room), slot⟩
    · rw [decide_eq_true full, Bool.or_true] at slot
      exact ⟨findings.trans (if_neg (Nat.not_lt.mpr full)), slot⟩

theorem isPulse_of_remote {b : MeterBinding} (remote : b.source = 1) : isPulse b = false := by
  rw [isPulse, remote]
  rfl

/-- Settles O23: by the tests of the pair, then by the slot's state and the span. -/
theorem readingPairMovesSlot : Obligations.ReadingPairMovesSlot := by
  intro s j p rest m x ended job takes hand going todo slot hx distinct htakes hended hjob
  subst hx
  obtain rfl : job = j.took rest := funext hjob
  obtain rfl : ended = fun st item => s.setJob { j with ended := some (st, item) } := funext₂ hended
  obtain rfl : takes = fun t gap share => ZonesTake s t m Accepting p.time.toNat gap share :=
    funext fun t => funext₂ fun gap share => propext (htakes t gap share)
  have exec_of {t : State} (h : s.readingPair = t) : exec .readingPair s = .next t := congrArg Host.Outcome.next h
  have reads : s.Reads (s.readSlot m) Accepting := State.reads_of_nights rfl
  have refused {e} := fun sound => State.readingPair_of_refused (e := e) hand going todo slot sound
  refine ⟨fun faulted => exec_of (State.readingPair_of_faulted hand going todo slot faulted), fun sound large => ?_,
    fun sound fits => ⟨fun tooNew => exec_of (refused sound (pairRefusal_of_tooNew fits tooNew)), fun timely => ?_⟩⟩
  · have offset : (if j.batch then 10 + 8 * j.outcomes.length else 9) = j.indexOffset := by
      unfold ReadingJob.indexOffset
      split <;> omega
    rw [offset]
    exact exec_of (refused sound (pairRefusal_of_large large))
  · refine ⟨fun q last earlier => exec_of (refused sound (pairRefusal_of_order fits timely last earlier)),
      fun q last same differs => exec_of (refused sound (pairRefusal_of_conflict fits timely last same differs)),
      fun repeats => ?_, fun awaiting absent => ?_, fun q doubtful remote last later => ?_,
      fun q length volume live remote last later hl hv => ?_⟩
    · have passes := pairRefusal_of_onward (offset := j.indexOffset) fits timely
        fun q last => .inr (Option.some.inj (last.symm.trans repeats))
      exact exec_of (State.readingPair_of_repeat hand going todo slot sound passes repeats)
    · have point := State.takePoint_of_awaiting (s := s) (t := s.readSlot m) (p := ⟨p.time.toNat, p.index⟩) awaiting
      have read := State.readingPair_of_later hand going todo slot sound fits timely
        (fun q last => nomatch absent.symm.trans last) point
      have placed := ((State.placed_coverFirst (t1 := p.time.toNat) distinct reads).become
        (fun unbound => nomatch awaiting.symm.trans unbound) .live 0).setPoint ⟨p.time.toNat, p.index⟩
      rw [if_neg (show (s.meter (s.readSlot m).slot).state ≠ .faulted from sound)] at placed
      exact exec_readingPair_quiet read point (.inl awaiting) placed rfl
    · have point := State.takePoint_of_doubtful (s := s) (t := s.readSlot m) (p := ⟨p.time.toNat, p.index⟩)
        (.inl (isPulse_of_remote remote)) last doubtful
      have read := State.readingPair_of_later hand going todo slot sound fits timely
        (fun q' last' => Option.some.inj (last.symm.trans last') ▸ later) point
      exact exec_readingPair_quiet read point (.inr (.inr doubtful))
        ((State.placed_coverGap distinct reads q.time).setPoint _) rfl
    · have pulse := isPulse_of_remote remote
      have live_point := State.takePoint_of_live (s := s) (t := s.readSlot m) (p := ⟨p.time.toNat, p.index⟩)
        (.inl pulse) last live
      have read {u o} := State.readingPair_of_later (u := u) (o := o) hand going todo slot sound fits timely
        fun q' last' => Option.some.inj (last.symm.trans last') ▸ later
      have span : volume = spanVolume (s.meter (s.readSlot m).slot).binding q.value p.index :=
        hv.trans (if_neg (Bool.eq_false_iff.mp pulse)).symm
      subst hl
      refine ⟨fun long => ?_, fun short large => ?_, fun short small => ?_⟩
      · have point := live_point.trans (State.livePoint_of_long pulse long)
        exact exec_readingPair_quiet (read point) point (.inr (.inl live))
          ((State.placed_coverGap distinct reads q.time).setPoint _) rfl
      · have point := live_point.trans (State.livePoint_of_implausible (.inr short) later
          (span ▸ decide_eq_true large))
        exact exec_readingPair_implausible (read point) point live (State.placed_coverGap distinct reads q.time)
      · have point := live_point.trans (State.livePoint_of_plausible (.inr short) span
          (.inr (decide_eq_false (Nat.not_lt.mpr small))))
        rw [if_pos (show q.time < p.time.toNat from later)] at point
        obtain ⟨t, taken, frame, hand, others, slot, zones⟩ := exec_readingPair_quiet (read point) point
          (.inr (.inl live)) (((State.placed_apportion distinct reads volume q.time).setPoint _).modMeter _) rfl
        have late : s.lateSpan m q.time p.time.toNat = true ↔ _ := s.lateSpan_iff m later
        exact ⟨t, _, taken, frame, fun h => if_pos (late.mpr h), fun h => if_neg (mt late.mp h), hand, zones, others,
          slot⟩

end Sys2Proof.Proofs

/-! ## READING and READING-BATCH (R53, R54, R57) -/

namespace Sys2Proof.Machine

open Sys2Proof Safety

namespace State

/-! ### A new fault of a slot's entry (R148, R149) -/

section

variable (s : State) (m : SlotId)

/-- The analyser holds no slot, so the three steps of a slot's fault are taken at once (R97). -/
theorem newFault_meter : s.newFault (.meter m) =
    ((s.setMark (.meter m)).outOfService (.meter m)).offer (entryFaultFinding (.meter m)) :=
  if_neg (by simp [analyses])

theorem meter_setMark_meter (k : SlotId) :
    (s.setMark (.meter m)).meter k = if k = m then { s.meter m with mark := true } else s.meter k := by
  have marked := meter_modMeter s m k fun x => { x with mark := true }
  unfold setMark
  dsimp only
  split
  · exact marked
  · exact marked

theorem meter_newFault_other {k : SlotId} (other : k ≠ m) : (s.newFault (.meter m)).meter k = s.meter k := by
  rw [newFault_meter, meter_offer_meter _ rfl, if_neg other, outOfService, meter_modMeter, if_neg other, meter_setMark_meter,
    if_neg other]

/-- The slot's mark is set, and a bound slot is out of service; its finding may be lost (R144). -/
theorem meter_newFault_own : ∃ lost, (s.newFault (.meter m)).meter m =
    { ({ s.meter m with mark := true } : MeterSlot).outOfService with lost := lost } := by
  rw [newFault_meter, meter_offer_meter _ rfl, if_pos rfl, outOfService, meter_modMeter, if_pos rfl, meter_setMark_meter,
    if_pos rfl]
  exact ⟨_, rfl⟩

theorem meter_newFault_bound (bound : (s.meter m).state ≠ .unbound) : ∃ lost, (s.newFault (.meter m)).meter m =
    { s.meter m with state := .faulted, mark := true, lost := lost } := by
  obtain ⟨lost, own⟩ := s.meter_newFault_own m
  have isBound : ({ s.meter m with mark := true } : MeterSlot).bound = true := (bound_iff _).mpr bound
  rw [MeterSlot.outOfService, if_pos isBound] at own
  exact ⟨lost, own⟩

theorem mark_newFault : ((s.newFault (.meter m)).meter m).mark = true := by
  obtain ⟨lost, own⟩ := s.meter_newFault_own m
  rw [own]
  unfold MeterSlot.outOfService
  split <;> rfl

end

theorem verify_of_mismatch {s : State} {m : SlotId} (clear : (s.meter m).mark = false)
    (mismatch : s.entryMatches (.meter m) = false) : s.verify (.meter m) = s.newFault (.meter m) :=
  if_neg (by simp [mismatch, entryMark, clear])

/-! ### The whole-request tests -/

section

variable {s : State} {slot : Byte} {tag : W32} {batch : Bool} {pairs : Nat} {m : SlotId}

theorem requestTests_of_mode (mode : s.mode ≠ .run) : s.requestTests slot tag batch pairs = (s, some (.wrongState, 0)) :=
  if_pos (bne_iff_ne.mpr mode)

section

variable (run : s.mode = .run)
include run

theorem requestTests_of_far (far : 127 < slot.toNat) : s.requestTests slot tag batch pairs = (s, some (.range, 0)) := by
  refine (if_neg (by simp [run])).trans ?_
  rw [Proofs.slotOf_eq_none far]

theorem requestTests_of_count (near : slot.toNat ≤ 127) (isBatch : batch = true) (count : pairs < 1 ∨ 16 < pairs) :
    s.requestTests slot tag batch pairs = (s, some (.range, 5)) := by
  refine (if_neg (by simp [run])).trans ?_
  rw [Proofs.slotOf_eq_some (m := ⟨slot.toNat, Nat.lt_succ_of_le near⟩) rfl]
  exact if_pos (by simpa [isBatch] using count)

variable (number : slot.toNat = m.val) (count : batch = true → 1 ≤ pairs ∧ pairs ≤ 16)
include number count

theorem requestTests_of_slot : s.requestTests slot tag batch pairs =
    if (s.meter m).state = .unbound then (s, some (.noSuch, 0)) else s.slotTests m tag := by
  refine (if_neg (by simp [run])).trans ?_
  rw [Proofs.slotOf_eq_some number]
  refine if_neg ?_
  simp only [Bool.and_eq_true, Bool.or_eq_true, decide_eq_true_iff, not_and]
  intro isBatch
  obtain ⟨least, most⟩ := count isBatch
  omega

end

/-- A mismatch faults the entry first, and the request then (R57, R148). -/
theorem slotTests_of_mismatch (clear : (s.meter m).mark = false) (mismatch : s.entryMatches (.meter m) = false) :
    s.slotTests m tag = (s.newFault (.meter m), some (.faulted, 0)) := by
  simp only [slotTests, verify_of_mismatch clear mismatch, s.mark_newFault m, Bool.or_true, if_true]

theorem slotTests_of_faulted
    (h : (s.meter m).mark = true ∨ (s.meter m).state = .faulted ∧ s.entryMatches (.meter m) = true) :
    s.slotTests m tag = (s, some (.faulted, 0)) := by
  have seen : s.verify (.meter m) = s := Laws.verify_of_settled (h.symm.imp And.right id)
  rw [slotTests, seen]
  exact Prod.ext rfl (if_pos (by simpa using h.symm.imp_left And.left))

section

variable (sound : (s.meter m).state ≠ .faulted) (clear : (s.meter m).mark = false)
  (matching : s.entryMatches (.meter m) = true)
include sound clear matching

theorem slotTests_of_sound : s.slotTests m tag =
    (s, if (s.meter m).binding.tag ≠ tag then some (.tagMismatch, 0)
      else if (s.meter m).binding.source = 2 then some (.source, 0) else none) := by
  rw [slotTests, Laws.verify_of_settled (.inl matching)]
  refine Prod.ext rfl ((if_neg (by simp [sound, clear])).trans ?_)
  simp only [bne_iff_ne, isPulse, decide_eq_true_iff]

end

end

/-! ### Taking the link's item (R53, R54) -/

section

variable {s : State} {slot : Byte} {tag : W32} {batch : Bool} {pairs : List Pair}

theorem offerReading_of_waiting (other : s.intake.hand ≠ .link)
    (busy : s.intake.hand ≠ .idle ∨ s.ctl.leaving ≠ none ∨ s.ctl.restarting = true) :
    s.offerReading slot tag batch pairs = s := by
  unfold offerReading
  split
  next link => exact absurd link other
  next idle =>
    refine if_neg ?_
    have shut := busy.resolve_left (· idle)
    simpa [intakeOpen, imp_iff_not_or, Option.ne_none_iff_isSome] using shut
  all_goals rfl

theorem offerReading_of_taking
    (takes : s.intake.hand = .link ∨ (s.intake.hand = .idle ∧ s.ctl.leaving = none ∧ s.ctl.restarting = false)) :
    s.offerReading slot tag batch pairs = s.startReading slot tag batch pairs := by
  unfold offerReading
  obtain link | ⟨idle, staying, running⟩ := takes
  · rw [link]
  · rw [idle]
    exact if_pos (by simp [intakeOpen, staying, running])

end

end State

end Sys2Proof.Machine

namespace Sys2Proof.Proofs

open Sys2Proof Machine Safety

/-- Both rows offer their request to the intake. -/
theorem exec_reading {ft slot : Byte} {tag : W32} {pairs : List Pair} {batch : Bool} {c : Instr} {s : State} {f : Frame}
    (row : c = .readingBatch ft slot tag pairs ∧ batch = true ∨
      ∃ p, c = .reading ft slot tag p ∧ pairs = [p] ∧ batch = false)
    (hf : encodeRequest c = some f) (free : Free s f) :
    exec c s = .next ((s.inHand f).offerReading slot tag batch pairs) := by
  obtain ⟨rfl, rfl⟩ | ⟨p, rfl, rfl, rfl⟩ := row
  · exact exec_of_free (fun t => t.offerReading slot tag true pairs) rfl hf free
  · exact exec_of_free (fun t => t.offerReading slot tag false [p]) rfl hf free

/-- A slot's fault leaves the request in hand alone. -/
theorem newFault_inHand (s : State) (f : Frame) (e : Subject) : (s.inHand f).newFault e = (s.newFault e).inHand f := by
  have link : (s.newFault e).link = s.link := by rw [Laws.newFault_onlyFault s e]
  have moved := Laws.newFault_link s (s.inHand f).link e
  refine moved.trans ?_
  unfold Laws.withLink State.inHand State.modLink
  rw [link]

/-- Settles O22: by whether the intake takes the item, then by the tests in order. -/
theorem readingIsTakenAndTested : Obligations.ReadingIsTakenAndTested := by
  intro ft slot tag pairs batch c s f taken row hf free htaken
  have offered := exec_reading row hf free
  refine ⟨fun other busy => ?_, fun takes => ?_⟩
  · exact offered.trans (congrArg Host.Outcome.next (State.offerReading_of_waiting (s := s.inHand f) other busy))
  · have tested : ∀ {u e}, (s.inHand f).requestTests slot tag batch pairs.length = (u.inHand f, e) →
        exec c s = .next (taken u e) := fun tests => by
      rw [offered, State.offerReading_of_taking (s := s.inHand f) takes, State.startReading, tests, htaken]
      rfl
    refine ⟨fun mode => tested (State.requestTests_of_mode (s := s.inHand f) mode),
      fun run far => tested (State.requestTests_of_far (s := s.inHand f) run far),
      fun run near isBatch count => tested (State.requestTests_of_count (s := s.inHand f) run near isBatch count),
      fun m run number count => ?_⟩
    have reached := State.requestTests_of_slot (s := s.inHand f) (tag := tag) run number count
    have bound := fun (h : (s.meter m).state ≠ .unbound) => reached.trans (if_neg h)
    refine ⟨fun unbound => tested (reached.trans (if_pos unbound)), fun hb clear mismatch => ?_, fun hb faulted => ?_,
      fun hb sound clear matching => ?_⟩
    · refine tested ((bound hb).trans ?_)
      rw [← newFault_inHand]
      exact State.slotTests_of_mismatch (s := s.inHand f) clear mismatch
    · exact tested ((bound hb).trans (State.slotTests_of_faulted (s := s.inHand f) faulted))
    · have tests := (bound hb).trans (State.slotTests_of_sound (s := s.inHand f) (tag := tag) sound clear matching)
      refine ⟨fun differs => tested (tests.trans ?_), fun same pulse => tested (tests.trans ?_),
        fun same other => tested (tests.trans ?_)⟩
      · exact congrArg _ (if_pos differs)
      · exact congrArg _ ((if_neg (not_not.mpr same)).trans (if_pos pulse))
      · exact congrArg _ ((if_neg (not_not.mpr same)).trans (if_neg other))

end Sys2Proof.Proofs

/-! ## Capture records (R54, R55, R61 to R63, R67, R68, R73) -/

namespace Sys2Proof.Machine

open Sys2Proof Safety Laws

/-! ### A pulse point -/

/-- Whether a record accepts points follows from its night and its state (R62, R71). -/
def Stable (accepts : ZoneId → NightRecord → Prop) : Prop :=
  ∀ z (r r' : NightRecord), r'.night = r.night → r'.state = r.state → (accepts z r' ↔ accepts z r)

theorem stable_accepting : Stable Accepting := fun _ _ _ _ state => by rw [Accepting, Accepting, state]

/-- The records that a taken slot lists stay the accepting ones through a point (R62). -/
theorem State.Reads.takePoint {s : State} {t : TakenSlot} {accepts : ZoneId → NightRecord → Prop}
    (reads : s.Reads t accepts) (stable : Stable accepts)
    (takes : t.state = .awaiting ∨ t.state = .live ∨ t.state = .doubtful) (p : Point) :
    (s.takePoint t p).1.Reads t accepts := by
  intro q hq r' record'
  rw [(moves_takePoint takes p).keeps.members_eq] at hq
  obtain ⟨r, record, night, state⟩ := record_takePoint takes p record'
  rw [night, reads q hq r record, stable q.1 r r' night state]

theorem spanVolume_of_pulse {b : MeterBinding} (pulse : b.source = 2) (x0 x1 : W32) :
    spanVolume b x0 x1 = (x1 - x0).toNat * b.volume.toNat := if_pos (decide_eq_true pulse)

namespace State

section

variable {s : State} {t : TakenSlot} {accepts : ZoneId → NightRecord → Prop}
  (takes : t.state = .awaiting ∨ t.state = .live ∨ t.state = .doubtful) (bound : (s.meter t.slot).state ≠ .unbound)
  (pulse : (s.meter t.slot).binding.source = 2) (distinct : ((s.meter t.slot).members.map (·.1)).Nodup)

section

variable (reads : s.Reads t accepts) (t1 : Nat) (c : W32)
include takes bound pulse distinct reads

theorem pulsePointTaken : PulsePointTaken s (s.takePoint t ⟨t1, c⟩).1 t.slot t.state accepts t1 c := by
  have isPulse_slot : isPulse (s.meter t.slot).binding = true := decide_eq_true pulse
  refine ⟨takePoint_onlyPoint s t _, (moves_takePoint takes _).others, fun anchors => ?_, fun q last onward doubtful => ?_,
    fun q volume last onward live hv => ⟨fun later large => ?_, fun plausible => ?_⟩⟩
  · by_cases awaiting : t.state = .awaiting
    · rw [takePoint_of_awaiting awaiting, if_pos awaiting]
      obtain ⟨zones, slot, findings, attn⟩ := ((placed_coverFirst distinct reads).become bound .live 0).setPoint ⟨t1, c⟩
      exact ⟨zones, findings, attn, slot⟩
    · rw [takePoint_of_anchor (takes.resolve_left awaiting) ((anchors.resolve_left awaiting).imp_right
        fun ⟨q, last, earlier⟩ => ⟨q, last, isPulse_slot, earlier⟩), if_neg awaiting]
      obtain ⟨zones, slot, findings, attn⟩ := (placed_coverFirst (t1 := t1) distinct reads).setPoint ⟨t1, c⟩
      exact ⟨zones, findings, attn, slot⟩
  · rw [takePoint_of_doubtful (.inr onward) last doubtful]
    obtain ⟨zones, slot, findings, attn⟩ := (placed_coverGap (t1 := t1) distinct reads q.time).setPoint ⟨t1, c⟩
    exact ⟨zones, findings, attn, slot⟩
  · rw [takePoint_of_live (.inr onward) last live, livePoint_of_implausible (.inl isPulse_slot) later
      (by rw [spanVolume_of_pulse pulse, ← hv]; exact decide_eq_true large)]
    have gap := placed_coverGap (t1 := t1) distinct reads q.time
    rcases Nat.lt_or_ge (s.meter t.slot).doubt 2 with few | many
    · obtain ⟨zones, slot, findings, attn⟩ := (gap.doubtSlot_few few).setPoint ⟨t1, c⟩
      exact ⟨zones, fun _ => ⟨findings, attn, slot⟩, fun many => absurd few (Nat.not_lt.mpr many)⟩
    · obtain ⟨zones, slot, findings, attn⟩ := (gap.doubtSlot_many bound many).setPoint ⟨t1, c⟩
      exact ⟨zones, fun few => absurd few (Nat.not_lt.mpr many), fun _ => ⟨findings, attn, slot⟩⟩
  · rw [takePoint_of_live (.inr onward) last live, livePoint_of_plausible (.inl isPulse_slot)
      (hv.trans (spanVolume_of_pulse pulse _ _).symm)
      (plausible.imp (fun same => Nat.le_of_eq same.symm) fun small => decide_eq_false (Nat.not_lt.mpr small))]
    have placed := (placed_apportion (t1 := t1) distinct reads volume q.time).setPoint ⟨t1, c⟩
    by_cases later : q.time < t1
    · rw [if_pos later, if_pos later]
      obtain ⟨zones, slot, findings, attn⟩ := placed.modMeter fun x => { x with doubt := 0 }
      exact ⟨zones, findings, attn, slot⟩
    · rw [if_neg later, if_neg later]
      obtain ⟨zones, slot, findings, attn⟩ := placed
      exact ⟨zones, findings, attn, slot⟩

end

/-! ### A capture record for its slot (R61, R62) -/

/-- The withheld gap of a RESUME record, at its slot (R62, R70). -/
theorem resumeGap_frame (s : State) (t : TakenSlot) (g r : Nat) (c : W32) : s.resumeGap t g r c =
    { s with meters := (s.resumeGap t g r c).meters, zones := (s.resumeGap t g r c).zones
             intake := { s.intake with touched := (s.resumeGap t g r c).intake.touched } } := by
  have only := touchAll_onlyRecords s t (fun _ n => n.modMember t.slot (s.grid.coverResume n.night g r))
    (s.meter t.slot).members
  unfold resumeGap
  rw [touchRecords_eq]
  generalize s.touchAll t _ _ = u at only
  rw [only]
  rfl

theorem moves_resumeGap (s : State) (t : TakenSlot) (g r : Nat) (c : W32) : Moves s (s.resumeGap t g r c) t.slot :=
  ((touchAll_onlyRecords s t _ _).moves t.slot).setPoint _

theorem meter_resumeGap (s : State) (t : TakenSlot) (g r : Nat) (c : W32) :
    (s.resumeGap t g r c).meter t.slot = { s.meter t.slot with lastPoint := some ⟨r, c⟩ } := by
  have records : (s.touchRecords t fun _ n => n.modMember t.slot (s.grid.coverResume n.night g r)).meter t.slot =
      s.meter t.slot := by
    rw [touchRecords_eq, touchAll_onlyRecords]
    rfl
  rw [resumeGap, setPoint, meter_modMeter, if_pos rfl, records]

section

variable {r : Capture} (reads : r.isResume = false → s.Reads (s.readRecords t) accepts)
  (readsThen : r.isResume = true → s.Reads t accepts) (stable : Stable accepts)
include takes bound pulse distinct reads readsThen stable

theorem recordHandled : RecordHandled s (s.handleRecord t r) t.slot t.state accepts r := by
  cases r with
  | pulse t1 c => exact pulsePointTaken (t := s.readRecords t) takes bound pulse distinct (reads rfl) t1 c
  | boundary t1 c => exact pulsePointTaken (t := s.readRecords t) takes bound pulse distinct (reads rfl) t1 c
  | resume g cg stop c =>
    have point := pulsePointTaken takes bound pulse distinct (readsThen rfl) g cg
    have moves := moves_takePoint (s := s) takes ⟨g, cg⟩
    have distinctNow : (((s.takePoint t ⟨g, cg⟩).1.meter t.slot).members.map (·.1)).Nodup := by
      rwa [moves.keeps.members_eq]
    exact ⟨_, point, resumeGap_frame .., (moves_resumeGap ..).others, meter_resumeGap ..,
      zonesTake_resumeGap distinctNow ((readsThen rfl).takePoint stable takes ⟨g, cg⟩) g c⟩

end

end

end State

end Sys2Proof.Machine

/-! ## The rows CAPTURE_RECORD and RESUME_RECORD (R54, R55, R61, R62) -/

namespace Sys2Proof.Machine

open Sys2Proof Safety Laws

/-! ### A slot's part, whatever the record -/

namespace State

section

variable {s : State} {t : TakenSlot} (takes : t.state = .awaiting ∨ t.state = .live ∨ t.state = .doubtful)
include takes

theorem moves_handleRecord (r : Capture) : Moves s (s.handleRecord t r) t.slot := by
  cases r with
  | pulse t1 c => exact moves_takePoint (t := s.readRecords t) takes ⟨t1, c⟩
  | boundary t1 c => exact moves_takePoint (t := s.readRecords t) takes ⟨t1, c⟩
  | resume g cg stop c => exact (moves_takePoint takes ⟨g, cg⟩).trans (moves_resumeGap _ t g stop c)

theorem lastPoint_handleRecord {r : Capture} {time : Nat} {count : W32}
    (kind : r = .pulse time count ∨ r = .boundary time count) :
    ((s.handleRecord t r).meter t.slot).lastPoint = some ⟨time, count⟩ := by
  rcases kind with rfl | rfl <;> exact lastPoint_takePoint (t := s.readRecords t) takes ⟨time, count⟩

end

theorem lastPoint_handleResume (s : State) (t : TakenSlot) (g stop : Nat) (cg c : W32) :
    ((s.handleRecord t (.resume g cg stop c)).meter t.slot).lastPoint = some ⟨stop, c⟩ := by
  rw [handleRecord, meter_resumeGap]

/-! ### The item in hand -/

/-- State s with h as the item in the intake's hand, and nothing else changed. -/
def withHand (h : IntakeHand) (s : State) : State := s.modIntake fun i => { i with hand := h }

end State

end Sys2Proof.Machine

namespace Sys2Proof.Safety

open Sys2Proof Machine State

variable {s u : State} {m : SlotId} {accepts : ZoneId → NightRecord → Prop} (h : IntakeHand)

theorem ZonesTake.withHand {t1 : Nat} {gap : Gap} {share : Option (Nat → Nat → Nat)}
    (z : ZonesTake s u m accepts t1 gap share) : ZonesTake (s.withHand h) (u.withHand h) m accepts t1 gap share :=
  ⟨z.others, z.takes, z.noted⟩

theorem PulsePointTaken.withHand {st : SlotState} {t1 : Nat} {c : W32} (taken : PulsePointTaken s u m st accepts t1 c) :
    PulsePointTaken (s.withHand h) (u.withHand h) m st accepts t1 c := by
  obtain ⟨frame, others, anchored, doubtful, live⟩ := taken
  obtain ⟨findings, attn⟩ := offer_congr (s := s) (u := s.withHand h) rfl rfl ⟨.meterDoubt, .meter m, none, none, none⟩
  refine ⟨congrArg (State.withHand h) frame, others, fun anchors => ?_, fun q last onward state => ?_,
    fun q volume last onward state hv => ?_⟩
  · exact (anchored anchors).imp_left (ZonesTake.withHand h)
  · exact (doubtful q last onward state).imp_left (ZonesTake.withHand h)
  · obtain ⟨large, small⟩ := live q volume last onward state hv
    refine ⟨fun later exceeds => ?_, fun plausible => (small plausible).imp_left (ZonesTake.withHand h)⟩
    rw [findings, attn]
    exact (large later exceeds).imp_left (ZonesTake.withHand h)

/-- What is done for a record does not turn on which item the intake holds. -/
theorem RecordHandled.withHand {st : SlotState} {r : Capture} (handled : RecordHandled s u m st accepts r) :
    RecordHandled (s.withHand h) (u.withHand h) m st accepts r := by
  cases r with
  | pulse t1 c => exact PulsePointTaken.withHand h handled
  | boundary t1 c => exact PulsePointTaken.withHand h handled
  | resume g cg stop c =>
    obtain ⟨v, point, frame, others, slot, zones⟩ := handled
    exact ⟨v.withHand h, point.withHand h, congrArg (State.withHand h) frame, others, slot, zones.withHand h⟩

end Sys2Proof.Safety

namespace Sys2Proof.Machine

open Sys2Proof Safety Laws

namespace State

theorem serveRecord_none (s : State) (x : ChanId) (r : Capture) : s.serveRecord x r none = s.withHand (.served x none) := rfl

theorem serveRecord_some (s : State) (x : ChanId) (r : Capture) (t : TakenSlot) :
    s.serveRecord x r (some t) = (s.handleRecord t r).withHand (.served x (some t.slot)) := rfl

theorem serveRecord_frame (s : State) (x : ChanId) (r : Capture) (slot : Option TakenSlot) :
    ∃ v h, OnlyPoint s v ∧ s.serveRecord x r slot = v.withHand h := by
  cases slot with
  | none => exact ⟨s, _, .refl s, rfl⟩
  | some t => exact ⟨_, _, handleRecord_onlyPoint s t r, rfl⟩

/-! ### Which slot a record reaches (R61) -/

theorem mem_claimants {s : State} {x : ChanId} {m : SlotId} (h : m ∈ s.claimants x) :
    ((s.meter m).state = .awaiting ∨ (s.meter m).state = .live ∨ (s.meter m).state = .doubtful) ∧
      (s.meter m).state ≠ .unbound ∧ (s.meter m).binding.source = 2 := by
  simp only [claimants, List.mem_filter, Bool.and_eq_true, Bool.or_eq_true, decide_eq_true_iff, isPulse, or_assoc] at h
  obtain ⟨-, ⟨state, source⟩, -⟩ := h
  refine ⟨state, fun unbound => ?_, source⟩
  rw [unbound] at state
  simp at state

section

variable {s : State} {m : SlotId} (clear : (s.meter m).mark = false)
include clear

theorem findClaimant_of_mismatch (mismatch : s.entryMatches (.meter m) = false) :
    s.findClaimant [m] = (s.newFault (.meter m), none) := by
  simp only [findClaimant, verify_of_mismatch clear mismatch, s.mark_newFault m, if_true]

theorem findClaimant_of_matching (matching : s.entryMatches (.meter m) = true) : s.findClaimant [m] = (s, some m) := by
  simp only [findClaimant, verify_of_settled (.inl matching), clear, Bool.false_eq_true, if_false]

end

/-! ### The record served -/

/-- State s once the oldest record has left the list of channel x. -/
def popped (s : State) (x : ChanId) : State := s.modChannel x fun c => { c with list := c.list.tail }

/-- State s with a record of channel x taken by the intake (R54). -/
def chosen (s : State) (x : ChanId) (r : Capture) (slot : Option TakenSlot) : State :=
  s.modIntake fun i => { i with hand := .chosen x r slot, pointer := x.castSucc, touched := [] }

theorem captureItem_of_chosen {s : State} {x : ChanId} {r : Capture} {slot : Option TakenSlot}
    (hand : s.intake.hand = .chosen x r slot) : s.captureItem x r.isResume = s.serveRecord x r slot := by
  simp only [captureItem, serveChosen, hand, decide_true, Bool.and_self, if_true]

section

variable {s : State} {x : ChanId} {r : Capture} {rest : List Capture} (idle : s.intake.hand = .idle)
  (staying : s.ctl.leaving = none) (running : s.ctl.restarting = false) (list : (s.channel x).list = r :: rest)
include idle staying running list

theorem captureItem_of_idle {u : State} {k : Option SlotId} (found : (s.popped x).findClaimant (s.claimants x) = (u, k)) :
    s.captureItem x r.isResume = (u.chosen x r (k.map u.readSlot)).serveRecord x r (k.map u.readSlot) := by
  have taken : s.takeRecord x r = u.chosen x r (k.map u.readSlot) :=
    congrArg (fun found : State × Option SlotId => found.1.chosen x r (found.2.map found.1.readSlot)) found
  have opens : s.intakeOpen = true := by simp [intakeOpen, staying, running]
  simp only [captureItem, idle, list, taken, opens, serveChosen, chosen, intake_modIntake, decide_true, Bool.and_self, if_true]

/-- What serving the oldest record of a channel can change. -/
theorem captureItem_frame : s.captureItem x r.isResume =
    { s with
      channels := (s.popped x).channels
      meters := (s.captureItem x r.isResume).meters
      zones := (s.captureItem x r.isResume).zones
      intake := (s.captureItem x r.isResume).intake
      findings := (s.captureItem x r.isResume).findings
      attn := (s.captureItem x r.isResume).attn
      analyser := (s.captureItem x r.isResume).analyser } ∧
    (s.captureItem x r.isResume).intake.pointer = x.castSucc := by
  obtain ⟨u, k, found⟩ : ∃ u k, (s.popped x).findClaimant (s.claimants x) = (u, k) := ⟨_, _, rfl⟩
  have fault : OnlyFault (s.popped x) u := by
    have fault := findClaimant_onlyFault (s.popped x) (s.claimants x)
    rwa [found] at fault
  obtain ⟨v, h, point, served⟩ := serveRecord_frame (u.chosen x r (k.map u.readSlot)) x r (k.map u.readSlot)
  rw [captureItem_of_idle idle staying running list found, served, point, fault]
  exact ⟨rfl, rfl⟩

end

end State

end Sys2Proof.Machine

namespace Sys2Proof.Proofs

open Sys2Proof Machine Safety Laws

theorem exec_capture {x : ChanId} {r : Capture} {c : Instr} (plain : r.isResume = false → c = .captureRecord x)
    (resume : r.isResume = true → c = .resumeRecord x) (s : State) : exec c s = .next (s.captureItem x r.isResume) := by
  cases kind : r.isResume with
  | false =>
    rw [plain kind]
    rfl
  | true =>
    rw [resume kind]
    rfl

section

variable {s : State} {x : ChanId} {r : Capture} {rest : List Capture} (idle : s.intake.hand = .idle)
  (staying : s.ctl.leaving = none) (running : s.ctl.restarting = false) (list : (s.channel x).list = r :: rest)
  {m : SlotId} (claims : s.claimants x = [m]) (clear : (s.meter m).mark = false)
include idle staying running list claims clear

/-- A mismatch faults the one claimant, and the record is discarded (R61, R148, R149). -/
theorem captureItem_of_mismatch (mismatch : s.entryMatches (.meter m) = false) {t : State}
    (ht : t = s.captureItem x r.isResume) :
    t.intake.hand = .served x none ∧ t.zones = s.zones ∧ (∀ k, k ≠ m → t.meter k = s.meter k) ∧
      (t.meter m).mark = true ∧ (t.meter m).state = .faulted ∧ (t.meter m).lastPoint = (s.meter m).lastPoint := by
  have found := State.findClaimant_of_mismatch (s := s.popped x) clear mismatch
  rw [← claims] at found
  rw [State.captureItem_of_idle idle staying running list found] at ht
  subst ht
  obtain ⟨lost, own⟩ := (s.popped x).meter_newFault_bound m
    (State.mem_claimants (claims ▸ List.mem_singleton.mpr rfl)).2.1
  have last := congrArg MeterSlot.lastPoint own
  have zones := zones_verify_meter (s.popped x) m
  rw [State.verify_of_mismatch (s := s.popped x) clear mismatch] at zones
  exact ⟨rfl, zones, fun k other => State.meter_newFault_other (s.popped x) m other, congrArg MeterSlot.mark own,
    congrArg MeterSlot.state own, last⟩

/-- The one claimant takes the record when its entry matches (R61, R62). -/
theorem captureItem_of_matching (matching : s.entryMatches (.meter m) = true) {t : State}
    (ht : t = s.captureItem x r.isResume) :
    t.intake.hand = .served x (some m) ∧ (∀ k, k ≠ m → t.meter k = s.meter k) ∧
      (((s.meter m).members.map (·.1)).Nodup → RecordHandled
        { s with channels := t.channels
                 intake := { s.intake with hand := .served x (some m), pointer := x.castSucc, touched := [] } }
        t m (s.meter m).state Accepting r) ∧
      (∀ time count, (r = .pulse time count ∨ r = .boundary time count) → (t.meter m).lastPoint = some ⟨time, count⟩) ∧
      ∀ g tr cg cr, r = .resume g cg tr cr → (t.meter m).lastPoint = some ⟨tr, cr⟩ := by
  have found := State.findClaimant_of_matching (s := s.popped x) clear matching
  rw [← claims] at found
  obtain ⟨frame, -⟩ := State.captureItem_frame idle staying running list
  rw [← ht] at frame
  have channels : t.channels = (s.popped x).channels := by rw [frame]
  obtain ⟨state, bound, source⟩ := State.mem_claimants (claims ▸ List.mem_singleton.mpr rfl : m ∈ s.claimants x)
  rw [State.captureItem_of_idle idle staying running list found] at ht
  rw [channels]
  subst ht
  refine ⟨rfl, (State.moves_handleRecord (t := (s.popped x).readSlot m) state r).others, fun distinct => ?_,
    fun time count kind => State.lastPoint_handleRecord (t := (s.popped x).readSlot m) state kind, ?_⟩
  · have handled := State.recordHandled (s := (s.popped x).chosen x r (some ((s.popped x).readSlot m)))
      (t := (s.popped x).readSlot m) (r := r) state bound source distinct (fun _ => State.reads_of_nights rfl)
      (fun _ => State.reads_of_nights rfl) stable_accepting
    exact handled.withHand (.served x (some m))
  · rintro g tr cg cr rfl
    exact State.lastPoint_handleResume _ ((s.popped x).readSlot m) g tr cg cr

end

/-- The records that take a capture record taken before: for a RESUME those read then, for a point those that accept now
(R62, R71). -/
def AcceptingFor (tk : TakenSlot) (r : Capture) (z : ZoneId) (n : NightRecord) : Prop :=
  if r.isResume then (z, n.night) ∈ tk.nights else Accepting z n

theorem stable_acceptingFor (tk : TakenSlot) (r : Capture) : Stable (AcceptingFor tk r) := fun z n n' night state => by
  rw [AcceptingFor, AcceptingFor, night, stable_accepting z n n' night state]

/-- The record that the intake took when its last item ended, for the slot read then (R55, R62, R71). -/
theorem serveRecord_of_taken {s : State} {x : ChanId} {r : Capture} {tk : TakenSlot}
    (takes : tk.state = .awaiting ∨ tk.state = .live ∨ tk.state = .doubtful) (bound : (s.meter tk.slot).state ≠ .unbound)
    (source : (s.meter tk.slot).binding.source = 2) (distinct : ((s.meter tk.slot).members.map (·.1)).Nodup) :
    RecordHandled (s.withHand (.served x (some tk.slot))) (s.serveRecord x r (some tk)) tk.slot tk.state
      (AcceptingFor tk r) r := by
  have reads (kind : r.isResume = false) : s.Reads (s.readRecords tk) (AcceptingFor tk r) := by
    unfold AcceptingFor
    simp only [kind, Bool.false_eq_true, if_false]
    exact State.reads_of_nights rfl
  have readsThen (kind : r.isResume = true) : s.Reads tk (AcceptingFor tk r) := fun q _ n _ => by
    rw [AcceptingFor, if_pos kind]
  rw [State.serveRecord_some]
  exact (State.recordHandled takes bound source distinct reads readsThen (stable_acceptingFor tk r)).withHand _

/-- Settles O24: by whether the intake takes the record now or took it before, and by the slot that claims it. -/
theorem captureRecordReachesItsMeter : Obligations.CaptureRecordReachesItsMeter := by
  refine ⟨fun x r rest s c idle staying running list plain resume => ?_,
    fun x r slot s c hand plain resume => ⟨fun unclaimed => ?_, fun tk claimed takes bound source distinct => ?_⟩⟩
  · obtain ⟨frame, pointer⟩ := State.captureItem_frame idle staying running list
    have channels : (s.captureItem x r.isResume).channels = (s.popped x).channels := by rw [frame]
    have channel : ∀ y, (s.captureItem x r.isResume).channel y =
        if y = x then { s.channel x with list := (s.channel x).list.tail } else s.channel y := fun y =>
      (show _ = (s.popped x).channel y by rw [State.channel, State.channel, channels]).trans (State.channel_modChannel ..)
    refine ⟨_, exec_capture plain resume s, by rwa [← channels] at frame, ?_,
      fun y other => (channel y).trans (if_neg other), pointer, fun unclaimed => ?_,
      fun m claims clear mismatch => captureItem_of_mismatch idle staying running list claims clear mismatch rfl,
      fun m claims clear matching => captureItem_of_matching idle staying running list claims clear matching rfl⟩
    · rw [channel, if_pos rfl, list]
      rfl
    · have found : (s.popped x).findClaimant (s.claimants x) = (s.popped x, none) := by rw [unclaimed]; rfl
      rw [State.captureItem_of_idle idle staying running list found]
      exact ⟨rfl, rfl, rfl⟩
  · rw [exec_capture plain resume, State.captureItem_of_chosen hand, unclaimed, State.serveRecord_none]
    rfl
  · refine ⟨_, exec_capture plain resume s, ?_⟩
    rw [State.captureItem_of_chosen hand, claimed]
    exact serveRecord_of_taken takes bound source distinct

end Sys2Proof.Proofs

/-! ## The place of a sample's time among the nights (R5, R82) -/

namespace Sys2Proof.Machine.Grid

variable {g : Grid} {t n night : Nat}

theorem inWindow_iff : g.inWindow night t = true ↔ g.ws night ≤ t ∧ t < g.we night := by
  simp only [inWindow, Bool.and_eq_true, decide_eq_true_eq]

theorem inEarlier_iff_nightOf : g.inEarlier night t = true ↔ ∃ n, g.nightOf t = some n ∧ n < night := by
  unfold inEarlier
  cases g.nightOf t <;> simp

/-- The window of the night found for a time holds that time, on every grid (R5). -/
theorem window_of_nightOf (found : g.nightOf t = some n) : g.ws n ≤ t ∧ t < g.we n := by
  unfold nightOf at found
  dsimp only at found
  split at found
  next started =>
    split at found
    next inside =>
      obtain rfl := Option.some.inj found
      refine ⟨?_, inside⟩
      unfold ws Config.daySeconds
      omega
    next => exact nomatch found
  next => exact nomatch found

/-- On a permitted grid a window ends before the next night's starts, a day after its own start (1.4, R8). -/
theorem we_lt_ws_succ (permitted : gridFault g = none) (n : Nat) : g.we n < g.ws (n + 1) := by
  obtain ⟨window, -, delay, day⟩ := lengths_of_gridFault permitted
  unfold we ws Config.daySeconds
  omega

theorem ws_mono {a b : Nat} (h : a ≤ b) : g.ws a ≤ g.ws b :=
  Nat.add_le_add_right (Nat.mul_le_mul_right _ h) _

/-- On a permitted grid the windows are apart, so that the night found is the only one that can hold the time (R5). -/
theorem nightOf_of_window (permitted : gridFault g = none) (start : g.ws n ≤ t) (stop : t < g.we n) :
    g.nightOf t = some n := by
  have next := we_lt_ws_succ permitted n
  have latest : (t - g.windowStart) / Config.daySeconds = n := by
    unfold ws Config.daySeconds at start next
    unfold Config.daySeconds
    omega
  have started : g.windowStart ≤ t := (Nat.le_add_left ..).trans start
  simp only [nightOf, if_pos started, latest, if_pos stop]

theorem not_inWindow_of_earlier (permitted : gridFault g = none) (earlier : n < night) (stop : t < g.we n) :
    ¬g.inWindow night t = true := fun inside => by
  have next := we_lt_ws_succ permitted n
  have later := ws_mono (g := g) (show n + 1 ≤ night from earlier)
  have start := (inWindow_iff.mp inside).1
  omega

end Sys2Proof.Machine.Grid

/-! ## PRESSURE: the tests, the place and the bin (R81 to R84) -/

namespace Sys2Proof.Machine.State

open Sys2Proof Proofs

variable {s : State} {z : ZoneId} {zone : Byte} {time : W32} {v : W16} {t : Nat} {r : NightRecord}

/-! ### The tests of R81 -/

theorem pressure_of_not_run (mode : s.mode ≠ .run) : s.pressure zone time v = s.refuse .wrongState 0 :=
  if_pos (by simpa using mode)

section

variable (running : s.mode = .run)
include running

theorem pressure_of_range (far : 47 < zone.toNat) : s.pressure zone time v = s.refuse .range 0 := by
  rw [pressure, if_neg (by simp [running]), zoneOf_eq_none far]

variable (named : zone.toNat = z.val)
include named

/-- The tests that follow when the number names zone z. -/
theorem pressure_of_named : s.pressure zone time v =
    if (s.zone z).condition = .unconfigured then s.refuse .noSuch 0
    else if (s.zone z).condition = .fault then s.refuse .wrongState 0
    else if s.time.partTime + 300 < time.toNat then s.refuse .tooNew 0
    else s.placeSample z time.toNat v := by
  rw [pressure, if_neg (by simp [running]), zoneOf_eq_some named]
  rfl

theorem pressure_of_unconfigured (unset : (s.zone z).condition = .unconfigured) :
    s.pressure zone time v = s.refuse .noSuch 0 :=
  (pressure_of_named running named).trans (if_pos unset)

theorem pressure_of_fault (fault : (s.zone z).condition = .fault) : s.pressure zone time v = s.refuse .wrongState 0 :=
  (pressure_of_named running named).trans ((if_neg (by simp [fault])).trans (if_pos fault))

variable (configured : (s.zone z).condition ≠ .unconfigured) (sound : (s.zone z).condition ≠ .fault)
include configured sound

theorem pressure_of_tooNew (tooNew : s.time.partTime + 300 < time.toNat) :
    s.pressure zone time v = s.refuse .tooNew 0 :=
  (pressure_of_named running named).trans ((if_neg configured).trans ((if_neg sound).trans (if_pos tooNew)))

theorem pressure_of_timely (timely : time.toNat ≤ s.time.partTime + 300) :
    s.pressure zone time v = s.placeSample z time.toNat v :=
  (pressure_of_named running named).trans
    ((if_neg configured).trans ((if_neg sound).trans (if_neg (Nat.not_lt.mpr timely))))

end

/-! ### The place of a sample that passes them (R82) -/

section

variable (closed : (s.zone z).record = none)
include closed

theorem placeSample_of_no_record : s.placeSample z t v =
    if (s.time.grid.nightOf t).isSome then s.refuse .late 0 else s.answer .ok ignoredBytes := by
  rw [placeSample, closed]
  rfl

theorem placeSample_late_of_no_record (permitted : gridFault s.time.grid = none) {n : Nat}
    (start : s.time.grid.ws n ≤ t) (stop : t < s.time.grid.we n) : s.placeSample z t v = s.refuse .late 0 :=
  (placeSample_of_no_record closed).trans (if_pos (by rw [Grid.nightOf_of_window permitted start stop]; rfl))

theorem placeSample_ignored_of_no_record (outside : ∀ n, t < s.time.grid.ws n ∨ s.time.grid.we n ≤ t) :
    s.placeSample z t v = s.answer .ok ignoredBytes :=
  (placeSample_of_no_record closed).trans <| if_neg fun isSome => by
    obtain ⟨n, found⟩ := Option.isSome_iff_exists.mp isSome
    have window := Grid.window_of_nightOf found
    have := outside n
    omega

end

section

variable (opened : (s.zone z).record = some r)
include opened

theorem placeSample_of_record : s.placeSample z t v =
    if s.time.grid.inWindow r.night t then
      if r.accepting then s.addSample z r ((t - s.time.grid.ws r.night) / (s.time.grid.interval * 60)) v
      else s.refuse .late 0
    else if s.time.grid.inEarlier r.night t then s.refuse .late 0
    else s.answer .ok ignoredBytes := by
  rw [placeSample, opened]
  rfl

theorem placeSample_late_of_closing (start : s.time.grid.ws r.night ≤ t) (stop : t < s.time.grid.we r.night)
    (closing : r.state = .closing) : s.placeSample z t v = s.refuse .late 0 :=
  (placeSample_of_record opened).trans
    ((if_pos (Grid.inWindow_iff.mpr ⟨start, stop⟩)).trans (if_neg (by simp [NightRecord.accepting, closing])))

theorem placeSample_of_accepting (start : s.time.grid.ws r.night ≤ t) (stop : t < s.time.grid.we r.night)
    (accepts : r.state ≠ .closing) : s.placeSample z t v =
      s.addSample z r ((t - s.time.grid.ws r.night) / (s.time.grid.interval * 60)) v :=
  (placeSample_of_record opened).trans
    ((if_pos (Grid.inWindow_iff.mpr ⟨start, stop⟩)).trans (if_pos (by simpa [NightRecord.accepting] using accepts)))

theorem placeSample_late_of_earlier (permitted : gridFault s.time.grid = none) {n : Nat} (earlier : n < r.night)
    (start : s.time.grid.ws n ≤ t) (stop : t < s.time.grid.we n) : s.placeSample z t v = s.refuse .late 0 :=
  (placeSample_of_record opened).trans
    ((if_neg (Grid.not_inWindow_of_earlier permitted earlier stop)).trans
      (if_pos (Grid.inEarlier_iff_nightOf.mpr ⟨n, Grid.nightOf_of_window permitted start stop, earlier⟩)))

theorem placeSample_ignored_of_record
    (outside : ∀ n, n ≤ r.night → t < s.time.grid.ws n ∨ s.time.grid.we n ≤ t) :
    s.placeSample z t v = s.answer .ok ignoredBytes := by
  have notIn : ∀ n, n ≤ r.night → ¬(s.time.grid.ws n ≤ t ∧ t < s.time.grid.we n) := fun n hn => by
    have := outside n hn
    omega
  refine (placeSample_of_record opened).trans ((if_neg fun inside => ?_).trans (if_neg fun earlier => ?_))
  · exact notIn _ (Nat.le_refl _) (Grid.inWindow_iff.mp inside)
  · obtain ⟨n, found, hn⟩ := Grid.inEarlier_iff_nightOf.mp earlier
    exact notIn n (Nat.le_of_lt hn) (Grid.window_of_nightOf found)

end

/-! ### The sample in its bin (R83, R84) -/

section

variable {k : Nat} {b : Bin} (bin : r.bins[k]? = some b)
include bin

theorem addSample_of_room (room : b.pressureCount < 255) : s.addSample z r k v =
    (s.putZone z { s.zone z with
        record := some { r with bins := r.bins.set k (b.addSample (saturatePressure v)) } }).answer .ok
      (addedBytes r.night k (b.pressureCount + 1) (saturatePressure v)) := by
  have written : r.bins.modify k (·.addSample (saturatePressure v)) =
      r.bins.set k (b.addSample (saturatePressure v)) := by rw [List.modify_eq_set_getElem?, bin]; rfl
  simp only [addSample, bin, written]
  exact if_pos room

theorem addSample_of_full (full : 255 ≤ b.pressureCount) :
    s.addSample z r k v = s.answer .ok (fullBytes r.night k b.pressureCount) := by
  simp only [addSample, bin]
  exact if_neg (Nat.not_lt.mpr full)

end

end Sys2Proof.Machine.State

namespace Sys2Proof.Proofs

open Sys2Proof Machine Safety State

/-- Settles O28: the tests in order, then the places of R82, then whether the bin has room. -/
theorem pressureSampleIsPlaced : Obligations.PressureSampleIsPlaced := by
  intro ft zone time v s f hf free
  have taken := exec_of_free (fun t => t.pressure zone time v) rfl hf free
  refine ⟨fun mode => exec_refuses taken free.1 (pressure_of_not_run mode),
    fun running far => exec_refuses taken free.1 (pressure_of_range running far), fun z running named =>
    ⟨fun unset => exec_refuses taken free.1 (pressure_of_unconfigured running named unset),
      fun fault => exec_refuses taken free.1 (pressure_of_fault running named fault), fun configured sound => ?_⟩⟩
  have placed := pressure_of_timely (s := s.inHand f) (time := time) (v := v) running named configured sound
  refine ⟨fun tooNew => exec_refuses taken free.1 (pressure_of_tooNew running named configured sound tooNew),
    fun timely closed => ?_, fun r timely opened => ?_⟩
  · refine ⟨fun ⟨n, start, stop⟩ permitted => exec_refuses taken free.1 ((placed timely).trans ?_),
      fun outside => exec_answers taken free.1 ((placed timely).trans ?_)⟩
    · exact placeSample_late_of_no_record closed permitted start stop
    · exact placeSample_ignored_of_no_record closed outside
  · refine ⟨fun start stop closing => exec_refuses taken free.1 ((placed timely).trans ?_),
      fun k b added start stop accepts hk bin hadded => ?_,
      fun ⟨n, earlier, start, stop⟩ permitted => exec_refuses taken free.1 ((placed timely).trans ?_),
      fun outside => exec_answers taken free.1 ((placed timely).trans ?_)⟩
    · exact placeSample_late_of_closing opened start stop closing
    · subst hk hadded
      have inBin := (placed timely).trans (placeSample_of_accepting (s := s.inHand f) opened start stop accepts)
      exact ⟨fun room => exec_answers (t := s.putZone z _) taken free.1 (inBin.trans (addSample_of_room bin room)),
        fun full => exec_answers taken free.1 (inBin.trans (addSample_of_full bin full))⟩
    · exact placeSample_late_of_earlier opened permitted earlier start stop
    · exact placeSample_ignored_of_record opened outside

/-! ## SET-PRESSURE-TABLE and the mean pressure (R87, R89) -/

/-- Settles O29: the write by the mode, and the query. -/
theorem pressureTableIsSetAndRead : Obligations.PressureTableIsSetAndRead := by
  intro ft entries s f q hf hq
  refine ⟨fun free setup => ?_, fun free mode => ?_, fun free => ?_⟩
  · have taken := exec_of_free (fun t => t.writeTable entries) rfl hf free
    exact exec_answers (t := s.setTable entries) taken free.1 (if_pos setup)
  · have taken := exec_of_free (fun t => t.writeTable entries) rfl hf free
    exact exec_answers taken free.1 (if_neg mode)
  · exact exec_answers (exec_of_free (fun t => t.answer .ok (tableBytes t.table)) rfl hq free) free.1 rfl

/-- Settles O30: the sampled bins of the statement are those whose means are taken, and W is 60 / I. -/
theorem meanPressureOfBinMeans : Obligations.MeanPressureOfBinMeans := by
  rintro g hour sampled rfl
  have count : (sampledMeans hour).length = (hour.filter fun b => decide (1 ≤ b.pressureCount)).length :=
    List.length_map ..
  rw [← count]
  exact ⟨fun few => if_pos few, fun enough => if_neg (Nat.not_lt.mpr enough)⟩

end Sys2Proof.Proofs

/-! ## The early close test (R94) -/

namespace Sys2Proof.Machine

open Sys2Proof

theorem Member.reaches_iff (e : Member) (t : Nat) : e.reaches t = true ↔ ∃ x, e.reach = some x ∧ t ≤ x := by
  unfold Member.reaches
  cases e.reach <;> simp

theorem Grid.closesEarly_iff (g : Grid) (r : NightRecord) : g.closesEarly r = true ↔
    (r.state = .collecting ∨ r.state = .draining) ∧ r.members ≠ [] ∧
      ∀ e ∈ r.members, ∃ t, e.reach = some t ∧ g.we r.night ≤ t := by
  simp [Grid.closesEarly, Member.reaches_iff, and_assoc]

theorem State.putZone_self (s : State) (z : ZoneId) : s.putZone z (s.zone z) = s := by
  simp [State.putZone, State.zone]

theorem State.earlyClose_of_record {s : State} {z : ZoneId} {r : NightRecord} (record : (s.zone z).record = some r) :
    s.earlyClose z = s.putZone z
      { s.zone z with record := some (if s.time.grid.closesEarly r then { r with state := .closing } else r) } := by
  simp only [State.earlyClose, State.modZone, record, Option.map_some]
  rfl

end Sys2Proof.Machine

namespace Sys2Proof.Proofs

open Sys2Proof Machine

/-- Settles O36: by whether the record closes early. -/
theorem earlyCloseNeedsEveryReach : Obligations.EarlyCloseNeedsEveryReach := by
  intro s z r record
  have tested := State.earlyClose_of_record record
  refine ⟨fun open_ members reach => ?_, fun stays => ?_⟩
  · rw [tested, if_pos ((Grid.closesEarly_iff _ r).mpr ⟨open_, members, reach⟩)]
  · have late : ¬s.time.grid.closesEarly r = true := fun early => by
      obtain ⟨open_, members, reach⟩ := (Grid.closesEarly_iff _ r).mp early
      rcases stays with waiting | closing | empty | ⟨e, he, short⟩
      · simp [waiting] at open_
      · simp [closing] at open_
      · exact members empty
      · obtain ⟨t, ht, far⟩ := reach e he
        exact absurd (short t ht) (Nat.not_lt.mpr far)
    rw [tested, if_neg late, ← record]
    exact s.putZone_self z

end Sys2Proof.Proofs

/-! ## The factor of a night (R102 to R104) -/

namespace Sys2Proof.Machine

open Sys2Proof

/-- The floor of a part r / 65 536 of a difference lies between nothing and the whole of it. -/
theorem fdiv_part_between {d r : Int} (h0 : 0 ≤ r) (h1 : r < 65536) :
    min 0 d ≤ (d * r).fdiv 65536 ∧ (d * r).fdiv 65536 ≤ max 0 d := by
  rw [Int.fdiv_eq_ediv_of_nonneg _ (by decide)]
  rcases le_total 0 d with rises | falls
  · have low : 0 ≤ d * r := mul_nonneg rises h0
    have high : d * r ≤ d * 65536 := mul_le_mul_of_nonneg_left h1.le rises
    omega
  · have low : d * 65536 ≤ d * r := mul_le_mul_of_nonpos_left h1.le falls
    have high : d * r ≤ 0 := mul_nonpos_of_nonpos_of_nonneg falls h0
    omega

/-- The interpolated value is the floor of R104, which lies between the two entries. -/
theorem interpolate_between (t : Vector W16 17) {i r : Nat} (hi : i ≠ 16) (hr : r < 65536) :
    (interpolate t i r : Int) = tableEntry t i + (((tableEntry t (i + 1) : Int) - tableEntry t i) * r).fdiv 65536 ∧
      min (tableEntry t i) (tableEntry t (i + 1)) ≤ interpolate t i r ∧
      interpolate t i r ≤ max (tableEntry t i) (tableEntry t (i + 1)) := by
  obtain ⟨low, high⟩ := fdiv_part_between (d := (tableEntry t (i + 1) : Int) - tableEntry t i) (r := r) (by omega) (by omega)
  rw [interpolate, if_neg hi]
  generalize (((tableEntry t (i + 1) : Int) - tableEntry t i) * r).fdiv 65536 = part at low high ⊢
  omega

theorem Grid.pressureAnswer_of_off (g : Grid) {x : ZoneSettings} (off : x.correction = 0) (hour : List Bin) :
    g.pressureAnswer x hour = .switchOff := if_pos off

theorem Grid.pressureAnswer_of_few {g : Grid} {x : ZoneSettings} {hour : List Bin} (on : x.correction ≠ 0)
    (few : g.meanPressure hour = none) : g.pressureAnswer x hour = .fewSamples := by
  rw [pressureAnswer, if_neg on, few]

theorem Grid.pressureAnswer_of_mean {g : Grid} {x : ZoneSettings} {hour : List Bin} {pavg : Nat} (on : x.correction ≠ 0)
    (mean : g.meanPressure hour = some pavg) : g.pressureAnswer x hour =
      .corrected pavg (pressureRatio x.pref.toNat pavg) ((pressureRatio x.pref.toNat pavg * 16 - 524288) / 65536)
        ((pressureRatio x.pref.toNat pavg * 16 - 524288) % 65536) := by
  rw [pressureAnswer, if_neg on, mean]

theorem pressureRatio_eq (pref pavg : Nat) : pressureRatio pref pavg =
    if pavg = 0 then 98304 else max 32768 (min 98304 (pref * 65536 / pavg)) := by
  unfold pressureRatio
  split <;> simp

theorem pressureRatio_between (pref pavg : Nat) : 32768 ≤ pressureRatio pref pavg ∧ pressureRatio pref pavg ≤ 98304 := by
  unfold pressureRatio
  omega

end Sys2Proof.Machine

namespace Sys2Proof.Proofs

open Sys2Proof Machine

/-- Settles O35: the two UNCORRECTED answers, then the position and the interpolation of a corrected one. -/
theorem factorIsInterpolated : Obligations.FactorIsInterpolated := by
  refine ⟨fun g x hour t => ⟨fun off => ⟨g.pressureAnswer_of_off off hour, rfl⟩,
    fun on few => ⟨Grid.pressureAnswer_of_few on few, rfl⟩⟩, ?_⟩
  intro g x hour t pavg ratio i r e on mean he hratio hi hr
  have clamped : pressureRatio x.pref.toNat pavg = ratio := (pressureRatio_eq _ _).trans hratio.symm
  have bounds := pressureRatio_between x.pref.toNat pavg
  have answer := Grid.pressureAnswer_of_mean on mean
  rw [clamped] at bounds answer
  obtain ⟨low, high⟩ := bounds
  have fraction : (ratio * 16 - 524288) % 65536 = r := by omega
  rw [← hi, fraction] at answer
  have entry : tableEntry t = e := funext fun k => (he k).symm
  have between := fun below : i < 16 => interpolate_between t (i := i) (r := r) (by omega) (by omega)
  rw [entry] at between
  refine ⟨by omega, by omega, by omega, answer, fun last => ?_, fun below => ?_, fun below => ?_⟩
  · rw [factorOf, interpolate, if_pos last, entry]
  · exact (between below).1
  · exact (between below).2

end Sys2Proof.Proofs

/-! ## Complete bins and the minimum hour (R99, R100) -/

namespace Sys2Proof.Machine

open Sys2Proof

theorem Grid.binComplete_iff (g : Grid) (r : NightRecord) (faulted : List SlotId) (k : Nat) :
    g.binComplete r faulted k = true ↔ r.members ≠ [] ∧ ∀ e ∈ r.members,
      (∃ t, e.reach = some t ∧ g.binStart r.night (k + 1) ≤ t) ∧ e.gaps.getLsbD k = false ∧ e.slot ∉ faulted := by
  simp [Grid.binComplete, Member.reaches_iff, Member.gapAt, and_assoc]

/-- A candidate is the start of an hour of complete bins inside the window (R100). -/
theorem Grid.mem_candidates_iff {g : Grid} (width : 0 < g.hourWidth) (r : NightRecord) (faulted : List SlotId) (h : Nat) :
    h ∈ g.candidates r faulted ↔
      h + g.hourWidth ≤ g.binCount ∧ ∀ i, i < g.hourWidth → g.binComplete r faulted (h + i) = true := by
  simp only [Grid.candidates, List.mem_filter, List.mem_range, List.all_eq_true, Bool.and_eq_true, decide_eq_true_eq]
  refine ⟨fun ⟨_, all⟩ => ⟨?_, fun i hi => (all i hi).2⟩, fun ⟨inside, all⟩ => ⟨by omega, fun i hi => ⟨by omega, all i hi⟩⟩⟩
  have last := (all (g.hourWidth - 1) (by omega)).1
  omega

theorem Grid.candidates_sorted (g : Grid) (r : NightRecord) (faulted : List SlotId) :
    (g.candidates r faulted).Pairwise (· < ·) := List.pairwise_lt_range.filter _

theorem leastHour_eq_none_iff (hours : List (Nat × Int)) : leastHour hours = none ↔ hours = [] := by
  cases hours with
  | nil => simp [leastHour]
  | cons x rest =>
    simp only [leastHour]
    grind

/-- The least hour is one of the hours; none is smaller, and none of those as small stands before it. -/
theorem leastHour_spec {hours : List (Nat × Int)} (sorted : hours.Pairwise fun a b => a.1 < b.1) {y : Nat × Int}
    (least : leastHour hours = some y) : y ∈ hours ∧ ∀ x ∈ hours, y.2 ≤ x.2 ∧ (x.2 = y.2 → y.1 ≤ x.1) := by
  induction hours generalizing y with
  | nil => simp [leastHour] at least
  | cons x rest ih =>
    obtain ⟨first, sorted⟩ := List.pairwise_cons.mp sorted
    cases later : leastHour rest with
    | none =>
      obtain rfl := (leastHour_eq_none_iff rest).mp later
      simp only [leastHour, Option.some.injEq] at least
      simp [least]
    | some z =>
      obtain ⟨mem, small⟩ := ih sorted later
      have after := first z mem
      simp only [leastHour, later] at least
      split at least
      next less =>
        obtain rfl := Option.some.inj least
        refine ⟨List.mem_cons_of_mem _ mem, List.forall_mem_cons.mpr ⟨⟨less.le, fun same => absurd same (by omega)⟩, small⟩⟩
      next notLess =>
        obtain rfl := Option.some.inj least
        refine ⟨List.mem_cons_self, List.forall_mem_cons.mpr ⟨⟨le_refl _, fun _ => le_refl _⟩, fun w hw => ?_⟩⟩
        exact ⟨le_trans (Int.not_lt.mp notLess) (small w hw).1, fun _ => (first w hw).le⟩

section

variable {g : Grid} {r : NightRecord} {faulted : List SlotId}

theorem Grid.minimumHour_eq_none_iff : g.minimumHour r faulted = none ↔ g.candidates r faulted = [] := by
  rw [minimumHour, leastHour_eq_none_iff, List.map_eq_nil_iff]

theorem Grid.minimumHour_spec {h : Nat} {sum : Int} (found : g.minimumHour r faulted = some (h, sum)) :
    h ∈ g.candidates r faulted ∧ sum = g.hourSum r h ∧
      ∀ h' ∈ g.candidates r faulted, sum ≤ g.hourSum r h' ∧ (g.hourSum r h' = sum → h ≤ h') := by
  obtain ⟨mem, small⟩ := leastHour_spec ((g.candidates_sorted r faulted).map _ fun _ _ lt => lt) found
  simp only [List.mem_map, Prod.mk.injEq, forall_exists_index, and_imp, forall_apply_eq_imp_iff₂] at mem small
  obtain ⟨_, mem, rfl, rfl⟩ := mem
  exact ⟨mem, rfl, small⟩

end

end Sys2Proof.Machine

namespace Sys2Proof.Proofs

open Sys2Proof Machine

/-- Settles O34: the hours of the statement are the candidates, among which the least is found. -/
theorem minimumHourIsLeastAndFirst : Obligations.MinimumHourIsLeastAndFirst := by
  intro g r faulted hour interval short hhour
  have width : 0 < g.hourWidth := Nat.div_pos short interval
  have candidate : ∀ h, hour h ↔ h ∈ g.candidates r faulted := fun h =>
    (hhour h).trans (Grid.mem_candidates_iff width r faulted h).symm
  simp only [candidate]
  refine ⟨fun k _ => g.binComplete_iff r faulted k, rfl, fun none => ?_, fun h sum found => ?_, fun ⟨h, mem⟩ none => ?_⟩
  · exact Grid.minimumHour_eq_none_iff.mpr (List.eq_nil_iff_forall_not_mem.mpr none)
  · obtain ⟨mem, hsum, least⟩ := Grid.minimumHour_spec found
    exact ⟨mem, hsum, fun h' hh' => (least h' hh').1, fun h' hh' => (least h' hh').2⟩
  · rw [Grid.minimumHour_eq_none_iff.mp none] at mem
    exact absurd mem List.not_mem_nil

end Sys2Proof.Proofs

/-! ## The class of a night (R98) -/

namespace Sys2Proof.Machine

open Sys2Proof

theorem correctedFlow_eq (leak : Int) (factor : Nat) :
    correctedFlow leak factor = min 2147483647 ((leak * factor + 8192) / 16384) := by
  rw [correctedFlow, Int.fdiv_eq_ediv_of_nonneg _ (by decide)]
  rfl

namespace State

section

variable {s : State} {a : Analysis} {r : NightRecord}

theorem judge_of_held (held : r.held = true) : s.judge a r = .held := if_pos held

theorem judge_of_changed (free : r.held = false) (changed : r.changed = true) : s.judge a r = .membershipChanged :=
  (if_neg (Bool.eq_false_iff.mp free)).trans (if_pos changed)

section

variable (free : r.held = false) (steady : r.changed = false)
include free steady

theorem judge_of_short (none : s.time.grid.minimumHour r a.faulted = none) :
    s.judge a r = .short (s.time.grid.completeBins r a.faulted).length := by
  refine (if_neg (Bool.eq_false_iff.mp free)).trans ((if_neg (Bool.eq_false_iff.mp steady)).trans ?_)
  rw [State.grid, none]

variable {start : Nat} {sum : Int} (found : s.time.grid.minimumHour r a.faulted = some (start, sum))
include found

/-- A night with a minimum hour is BALANCE below −Balance, and JUDGED otherwise. -/
theorem judge_of_minimum : s.judge a r =
    if saturateFlow sum < -a.settings.balance.toInt then
      .balance (s.time.grid.completeBins r a.faulted).length (saturateFlow sum) start
    else
      .judged (s.time.grid.completeBins r a.faulted).length (saturateFlow sum) start
        (s.time.grid.pressureAnswer a.settings (s.time.grid.hourBins r start))
        (factorOf s.table (s.time.grid.pressureAnswer a.settings (s.time.grid.hourBins r start)))
        (correctedFlow (leakPart (saturateFlow sum) a.settings.lz.toInt)
          (factorOf s.table (s.time.grid.pressureAnswer a.settings (s.time.grid.hourBins r start)))) := by
  refine (if_neg (Bool.eq_false_iff.mp free)).trans ((if_neg (Bool.eq_false_iff.mp steady)).trans ?_)
  rw [State.grid, found]

end

end

end State

end Sys2Proof.Machine

namespace Sys2Proof.Proofs

open Sys2Proof Machine

/-- Settles O33: the tests of R98 in order. -/
theorem nightClassInOrder : Obligations.NightClassInOrder := by
  rintro s a r complete rfl
  refine ⟨State.judge_of_held, State.judge_of_changed, State.judge_of_short, ?_⟩
  rintro start sum mnf free steady found rfl
  have judged := State.judge_of_minimum free steady found
  refine ⟨fun low => judged.trans (if_pos low), fun high => ⟨_, _, rfl, rfl, fun off => ?_, fun on few => ?_, ?_⟩⟩
  · have answer := s.time.grid.pressureAnswer_of_off off (s.time.grid.hourBins r start)
    exact ⟨answer, congrArg (factorOf s.table) answer⟩
  · have answer := Grid.pressureAnswer_of_few (hour := s.time.grid.hourBins r start) on few
    exact ⟨answer, congrArg (factorOf s.table) answer⟩
  · refine judged.trans ((if_neg (Int.not_lt.mpr high)).trans ?_)
    rw [correctedFlow_eq]
    rfl

end Sys2Proof.Proofs

/-! ## Zones written twice, and findings about a zone (R143, R144) -/

namespace Sys2Proof.Machine.State

open Sys2Proof

variable (s : State)

theorem or_noFlag (a : Byte) : a ||| 0 = a := BitVec.or_zero

theorem noFlag_or (a : Byte) : 0 ||| a = a := BitVec.zero_or

theorem putZone_putZone (z : ZoneId) (x y : Zone) : (s.putZone z x).putZone z y = s.putZone z y := by
  simp only [putZone, Vector.set_set]

theorem modZone_putZone (z : ZoneId) (x : Zone) (f : Zone → Zone) : (s.putZone z x).modZone z f = s.putZone z (f x) := by
  rw [modZone, zone_putZone, if_pos rfl, putZone_putZone]

theorem modZone_modZone (z : ZoneId) (f g : Zone → Zone) : (s.modZone z f).modZone z g = s.modZone z fun x => g (f x) :=
  modZone_putZone s z _ g

theorem modMeter_modMeter (m : SlotId) (f g : MeterSlot → MeterSlot) :
    (s.modMeter m f).modMeter m g = s.modMeter m fun x => g (f x) := by
  unfold modMeter
  rw [meter_putMeter, if_pos rfl]
  simp only [putMeter, Vector.set_set]

/-- A finding latches FINDING when it is the first of the queue, and QUEUE-FULL when there is no room for it. -/
theorem attn_offer (x : Finding) : (s.offer x).attn = { s.attn with latched := s.attn.latched |||
    ((if s.findings = [] then 0x01 else 0) ||| (if 32 ≤ s.findings.length then 0x02 else 0)) } := by
  unfold offer findingsMax
  by_cases empty : s.findings = []
  · rw [if_pos (by simp [empty]), if_pos empty, if_pos empty, if_neg (by simp [empty]), or_noFlag]
    rfl
  · rw [if_neg empty, if_neg empty, noFlag_or]
    by_cases room : s.findings.length < 32
    · rw [if_pos room, if_neg (Nat.not_le.mpr room), or_noFlag]
      rfl
    · rw [if_neg room, if_pos (Nat.not_lt.mp room)]
      exact congrArg (fun a : Attention => { a with latched := a.latched ||| flagQueueFull }) (attn_markLost s x.subject)

/-- A finding that finds room joins the queue and changes nothing else but the flags. -/
theorem offer_of_room (room : s.findings.length < 32) (x : Finding) :
    s.offer x = { s with findings := s.findings ++ [x], attn := (s.offer x).attn } := by
  unfold offer findingsMax
  rw [if_pos room]
  dsimp only
  split <;> rfl

section

variable {x : Finding} {z : ZoneId} (subject : x.subject = .zone z)
include subject

/-- A finding about a zone changes the queue, the flags and, when it is lost, its zone's mark. -/
theorem offer_zone_frame : s.offer x =
    { s.modZone z fun y => { y with lost := y.lost || decide (32 ≤ s.findings.length) } with
      findings := (s.offer x).findings, attn := (s.offer x).attn } := by
  unfold offer findingsMax
  by_cases room : s.findings.length < 32
  · have kept : (s.modZone z fun y => { y with lost := y.lost || decide (32 ≤ s.findings.length) }) = s := by
      simp only [modZone, decide_eq_false (Nat.not_le.mpr room), Bool.or_false]
      exact s.putZone_self z
    rw [if_pos room, kept]
    dsimp only
    split <;> rfl
  · rw [if_neg room, subject, decide_eq_true (Nat.not_lt.mp room)]
    simp only [Bool.or_true]
    rfl

theorem zone_offer_zone (y : ZoneId) : (s.offer x).zone y =
    if y = z then { s.zone z with lost := (s.zone z).lost || decide (32 ≤ s.findings.length) } else s.zone y := by
  rw [offer_zone_frame s subject]
  exact zone_modZone s z y fun y => { y with lost := y.lost || decide (32 ≤ s.findings.length) }

end

end Sys2Proof.Machine.State

/-! ## New faults of entries (R147 to R150) -/

namespace Sys2Proof.Machine

open Sys2Proof

/-- A slot after steps 1 and 2 of a new fault of its entry (R148, R149). -/
def MeterSlot.newlyFaulted (x : MeterSlot) : MeterSlot := { x with mark := true }.outOfService

/-- A zone after steps 1 and 2 of a new fault of its entry (R148, R150). -/
def Zone.newlyFaulted (x : Zone) : Zone := { x with mark := true }.outOfService

theorem MeterSlot.newlyFaulted_eq (x : MeterSlot) :
    x.newlyFaulted = { x with mark := true, state := if x.state = .unbound then .unbound else .faulted } := by
  unfold newlyFaulted outOfService
  by_cases unbound : x.state = .unbound
  · rw [if_neg (by simp [bound, unbound]), if_pos unbound, ← unbound]
  · rw [if_pos (by simp [bound, unbound]), if_neg unbound]

theorem Zone.outOfService_of_configured {x : Zone} (h : x.kept ≠ .unconfigured) :
    x.outOfService = { x with kept := .fault, record := none } := if_neg h

theorem Zone.newlyFaulted_of_unconfigured {x : Zone} (h : x.kept = .unconfigured) :
    x.newlyFaulted = { x with mark := true } := if_pos h

theorem Zone.newlyFaulted_of_configured {x : Zone} (h : x.kept ≠ .unconfigured) :
    x.newlyFaulted = { x with mark := true, kept := .fault, record := none } := if_neg h

theorem Zone.mark_newlyFaulted (x : Zone) : x.newlyFaulted.mark = true := by
  unfold newlyFaulted outOfService
  split <;> rfl

theorem Zone.lost_newlyFaulted (x : Zone) : x.newlyFaulted.lost = x.lost := by
  unfold newlyFaulted outOfService
  split <;> rfl

end Sys2Proof.Machine

namespace Sys2Proof.Machine.State

open Sys2Proof

variable (s : State)

theorem attn_setMark (e : Subject) : (s.setMark e).attn =
    { s.attn with latched := s.attn.latched ||| (if s.faultedCount = 0 then 0x04 else 0) } := by
  unfold setMark
  dsimp only
  by_cases first : s.faultedCount = 0
  · rw [if_pos first, if_pos first]
    cases e <;> rfl
  · rw [if_neg first, if_neg first, or_noFlag]
    cases e <;> rfl

theorem setMark_zone (z : ZoneId) : s.setMark (.zone z) =
    { s.modZone z fun x => { x with mark := true } with attn := (s.setMark (.zone z)).attn } := by
  unfold setMark
  dsimp only
  split <;> rfl

theorem setMark_meter (m : SlotId) : s.setMark (.meter m) =
    { s.modMeter m fun x => { x with mark := true } with attn := (s.setMark (.meter m)).attn } := by
  unfold setMark
  dsimp only
  split <;> rfl

theorem verify_of_new {e : Subject} (mismatch : s.entryMatches e = false) (clear : s.entryMark e = false) :
    s.verify e = s.newFault e := if_neg (by simp [mismatch, clear])

theorem analyses_of_held {a : Analysis} (held : s.analyser.analysing = some a) : s.analyses (.zone a.zone) = true := by
  simp [analyses, held]

theorem analyses_of_other {z : ZoneId} (other : ∀ a, s.analyser.analysing = some a → a.zone ≠ z) :
    s.analyses (.zone z) = false := by
  unfold analyses
  cases held : s.analyser.analysing with
  | none => rfl
  | some a => exact decide_eq_false (other a held)

theorem newFault_of_other {e : Subject} (other : s.analyses e = false) :
    s.newFault e = ((s.setMark e).outOfService e).offer (entryFaultFinding e) := if_neg (by simp [other])

theorem newFault_of_held {e : Subject} (held : s.analyses e = true) : s.newFault e =
    (s.setMark e).modAnalyser fun a =>
      { a with analysing := a.analysing.map fun x => { x with deferredFault := true } } := if_pos held

theorem setMark_outOfService_zone (z : ZoneId) : (s.setMark (.zone z)).outOfService (.zone z) =
    { s.modZone z Zone.newlyFaulted with attn := (s.setMark (.zone z)).attn } := by
  have twice := modZone_modZone s z (fun x => { x with mark := true }) Zone.outOfService
  rw [setMark_zone, show Zone.newlyFaulted = fun x => ({ x with mark := true } : Zone).outOfService from rfl, ← twice]
  rfl

theorem setMark_outOfService_meter (m : SlotId) : (s.setMark (.meter m)).outOfService (.meter m) =
    { s.modMeter m MeterSlot.newlyFaulted with attn := (s.setMark (.meter m)).attn } := by
  have twice := modMeter_modMeter s m (fun x => { x with mark := true }) MeterSlot.outOfService
  rw [setMark_meter, show MeterSlot.newlyFaulted = fun x => ({ x with mark := true } : MeterSlot).outOfService from rfl,
    ← twice]
  rfl

/-- The first fault mark of all latches ENTRY-FAULT (R169). -/
theorem newFault_latches (e : Subject) (first : s.faultedCount = 0) :
    (s.newFault e).attn.latched &&& 0x04 = 0x04 := by
  have marked : (s.setMark e).attn.latched = s.attn.latched ||| 0x04 := by rw [attn_setMark, if_pos first]
  have stays (a b c : Byte) : (a ||| b ||| c) &&& b = b := by
    ext i
    simp only [BitVec.getElem_and, BitVec.getElem_or, Bool.and_eq_right_iff_imp, Bool.or_eq_true]
    exact fun h => .inl (.inr h)
  cases other : s.analyses e with
  | true =>
    rw [newFault_of_held s other, attn_modAnalyser, marked, ← or_noFlag (_ ||| _), stays]
  | false =>
    rw [newFault_of_other s other, attn_offer, attn_outOfService, marked]
    exact stays _ _ _

section

variable (z : ZoneId) (other : ∀ a, s.analyser.analysing = some a → a.zone ≠ z)
include other

theorem newFault_zone_frame : s.newFault (.zone z) =
    { s with zones := (s.newFault (.zone z)).zones, findings := (s.newFault (.zone z)).findings
             attn := (s.newFault (.zone z)).attn } := by
  rw [newFault_of_other s (s.analyses_of_other other),
    offer_zone_frame ((s.setMark (.zone z)).outOfService (.zone z)) (x := entryFaultFinding (.zone z)) rfl,
    setMark_outOfService_zone]
  rfl

theorem zone_newFault_other {y : ZoneId} (apart : y ≠ z) : (s.newFault (.zone z)).zone y = s.zone y := by
  rw [newFault_of_other s (s.analyses_of_other other), zone_offer_zone _ rfl, if_neg apart, setMark_outOfService_zone]
  exact (zone_modZone s z y Zone.newlyFaulted).trans (if_neg apart)

/-- The zone's mark is set, and it is out of service; its finding is lost when the queue is full (R144). -/
theorem zone_newFault_own : (s.newFault (.zone z)).zone z =
    { (s.zone z).newlyFaulted with lost := (s.zone z).lost || decide (32 ≤ s.findings.length) } := by
  have own : ((s.setMark (.zone z)).outOfService (.zone z)).zone z = (s.zone z).newlyFaulted := by
    rw [setMark_outOfService_zone]
    exact (zone_modZone s z z Zone.newlyFaulted).trans (if_pos rfl)
  have findings : ((s.setMark (.zone z)).outOfService (.zone z)).findings = s.findings := by
    rw [setMark_outOfService_zone]
    rfl
  rw [newFault_of_other s (s.analyses_of_other other), zone_offer_zone _ rfl, if_pos rfl, own, findings,
    Zone.lost_newlyFaulted]

theorem findings_newFault_zone (room : s.findings.length < 32) :
    (s.newFault (.zone z)).findings = s.findings ++ [entryFaultFinding (.zone z)] := by
  have findings : ((s.setMark (.zone z)).outOfService (.zone z)).findings = s.findings := by
    rw [setMark_outOfService_zone]
    rfl
  rw [newFault_of_other s (s.analyses_of_other other), findings_offer, findings, if_pos room]

end

/-- A slot's fault, when its finding finds room (R148, R149). -/
theorem newFault_meter_of_room (m : SlotId) (room : s.findings.length < 32) : s.newFault (.meter m) =
    { s.modMeter m MeterSlot.newlyFaulted with
      findings := s.findings ++ [entryFaultFinding (.meter m)], attn := (s.newFault (.meter m)).attn } := by
  rw [newFault_meter]
  have marked := setMark_outOfService_meter s m
  generalize (s.setMark (.meter m)).outOfService (.meter m) = t at marked ⊢
  have findings : t.findings = s.findings := by rw [marked]; rfl
  rw [offer_of_room t (by rwa [findings]), findings, marked]

end Sys2Proof.Machine.State

namespace Sys2Proof.Proofs

open Sys2Proof Machine

/-- Settles O47: by whether the analyser holds the entry's owner, and by its kind. -/
theorem verificationMakesNewFault : Obligations.VerificationMakesNewFault := by
  intro s
  refine ⟨fun e settled => Laws.verify_of_settled settled, fun e mismatch clear first => ?_, fun m mismatch clear room => ?_,
    fun z mismatch clear room other => ?_, fun a held mismatch clear => ?_⟩
  · rw [s.verify_of_new mismatch clear]
    exact s.newFault_latches e first
  · have fault := (s.verify_of_new mismatch clear).trans (s.newFault_meter_of_room m room)
    refine ⟨_, fault, rfl, rfl, fun k apart => ?_, ?_⟩
    · exact (s.meter_modMeter m k MeterSlot.newlyFaulted).trans (if_neg apart)
    · exact (s.meter_modMeter m m MeterSlot.newlyFaulted).trans ((if_pos rfl).trans (MeterSlot.newlyFaulted_eq _))
  · have own := s.zone_newFault_own z other
    rw [decide_eq_false (Nat.not_le.mpr room), Bool.or_false] at own
    refine ⟨_, s.verify_of_new mismatch clear, s.newFault_zone_frame z other, s.findings_newFault_zone z other room,
      fun y apart => s.zone_newFault_other z other apart, fun unset => ?_, fun configured => ?_⟩
    · rw [own, Zone.newlyFaulted_of_unconfigured unset]
    · rw [own, Zone.newlyFaulted_of_configured configured]
  · have fault := (s.verify_of_new mismatch clear).trans (s.newFault_of_held (s.analyses_of_held held))
    rw [State.setMark_zone] at fault
    refine ⟨_, fault, rfl, ?_, fun y apart => ?_, ?_⟩
    · show s.analyser.analysing.map _ = _
      rw [held, Option.map_some]
    · exact (s.zone_modZone a.zone y fun x => { x with mark := true }).trans (if_neg apart)
    · exact (s.zone_modZone a.zone a.zone fun x => { x with mark := true }).trans (if_pos rfl)

end Sys2Proof.Proofs

/-! ## ANALYSER_TAKE_ZONE (R96, R97) -/

namespace Sys2Proof.Machine.State

open Sys2Proof

section

variable {s : State} {z : ZoneId} {r : NightRecord}

theorem isClosing_of_record (record : (s.zone z).record = some r) (closing : r.state = .closing) :
    (s.zone z).isClosing = true := by simp [Zone.isClosing, record, closing]

theorem mem_closingSet_iff : z ∈ s.closingSet ↔ (s.zone z).isClosing = true := by simp [closingSet]

/-- The lowest-numbered zone of the closing set (R96). -/
theorem closingSet_head? (closing : (s.zone z).isClosing = true) (least : ∀ y, y < z → (s.zone y).isClosing = false) :
    s.closingSet.head? = some z := by
  rw [closingSet, List.head?_filter]
  exact Proofs.find?_finRange closing least

theorem nextZone_of_least {pick : Option ZoneId} (free : pick = none ∨ s.closingSet ≠ s.analyser.raced)
    (closing : (s.zone z).isClosing = true) (least : ∀ y, y < z → (s.zone y).isClosing = false) :
    s.nextZone pick = some z := by
  have head := closingSet_head? closing least
  unfold nextZone
  cases pick with
  | none => exact head
  | some y =>
    have apart := free.resolve_left (Option.some_ne_none y)
    exact (if_neg (by simp [apart])).trans head

theorem nextZone_of_raced (closing : (s.zone z).isClosing = true) (raced : s.closingSet = s.analyser.raced) :
    s.nextZone (some z) = some z := by
  have mem : z ∈ s.analyser.raced := raced ▸ mem_closingSet_iff.mpr closing
  exact if_pos (by simp [mem, raced])

theorem nextZone_of_empty (empty : s.closingSet = []) (pick : Option ZoneId) : s.nextZone pick = none := by
  unfold nextZone
  rw [empty]
  cases pick with
  | none => rfl
  | some y => exact if_neg (by cases s.analyser.raced <;> simp)

theorem takeZone_of_match (record : (s.zone z).record = some r) (matching : s.entryMatches (.zone z) = true)
    (clear : (s.zone z).mark = false) : s.takeZone z =
      { s with analyser := ⟨some ⟨z, (s.zone z).entry.settings, s.faultedMembers r, false⟩, []⟩ } := by
  have seen : (s.modAnalyser fun a => { a with raced := [] }).verify (.zone z) =
      s.modAnalyser fun a => { a with raced := [] } := Laws.verify_of_settled (.inl matching)
  have faulted : s.faultedSlots z = s.faultedMembers r := by rw [faultedSlots, record]
  rw [takeZone, seen, ← faulted]
  exact if_neg (Bool.eq_false_iff.mp clear)

theorem takeZone_of_mismatch (mismatch : s.entryMatches (.zone z) = false) (clear : (s.zone z).mark = false)
    (idle : s.analyser.analysing = none) : s.takeZone z =
      ((s.modAnalyser fun a => { a with raced := [] }).newFault (.zone z)).outOfService (.zone z) := by
  have seen : (s.modAnalyser fun a => { a with raced := [] }).verify (.zone z) =
      (s.modAnalyser fun a => { a with raced := [] }).newFault (.zone z) := verify_of_new _ mismatch clear
  have own := (s.modAnalyser fun a => { a with raced := [] }).zone_newFault_own z (by simp [idle])
  rw [takeZone, seen]
  refine if_pos ?_
  rw [own]
  exact Zone.mark_newlyFaulted _

end

end Sys2Proof.Machine.State

namespace Sys2Proof.Proofs

open Sys2Proof Machine

theorem exec_analyserTakeZone {s : State} {pick : Option ZoneId} {z : ZoneId} (idle : s.analyser.analysing = none)
    (running : s.ctl.restarting = false) (next : s.nextZone pick = some z) :
    exec (.analyserTakeZone pick) s = .next (s.takeZone z) := by
  refine congrArg Host.Outcome.next ((if_neg (by simp [idle, running])).trans ?_)
  rw [next]

/-- Settles O31: the zone taken, then whether its entry matches. -/
theorem analyserTakesLowestZone : Obligations.AnalyserTakesLowestZone := by
  refine fun s => ⟨fun waits pick => congrArg Host.Outcome.next ?_, ?_⟩
  · split
    · rfl
    next takes =>
      simp only [Bool.or_eq_true, Option.isSome_iff_ne_none, not_or] at takes
      have empty := (waits.resolve_left takes.1).resolve_left takes.2
      rw [State.nextZone_of_empty empty]
  · rintro pick z r work idle running record closing chosen rfl
    have isClosing := State.isClosing_of_record record closing
    have next : s.nextZone pick = some z := by
      rcases chosen with ⟨free, least⟩ | ⟨rfl, raced⟩
      · exact State.nextZone_of_least free isClosing least
      · exact State.nextZone_of_raced isClosing raced
    have taken := exec_analyserTakeZone idle running next
    refine ⟨fun matching clear => ?_, fun mismatch clear configured => ?_⟩
    · rw [taken, State.takeZone_of_match record matching clear]
      rfl
    · rw [State.takeZone_of_mismatch mismatch clear idle] at taken
      have cleared : s.analyser = { analysing := none, raced := s.analyser.raced } := by rw [← idle]
      have other : ∀ a, (s.modAnalyser fun a => { a with raced := [] }).analyser.analysing = some a → a.zone ≠ z := by
        simp [idle]
      have frame := State.newFault_zone_frame _ z other
      have own := State.zone_newFault_own _ z other
      have apart := fun y => State.zone_newFault_other _ z other (y := y)
      have findings := State.findings_newFault_zone _ z other
      generalize State.newFault _ (.zone z) = u at taken frame own apart findings
      rw [State.zone_modAnalyser, Zone.newlyFaulted_of_configured configured] at own
      have out : (u.outOfService (.zone z)).zone z = u.zone z := by
        rw [State.outOfService, State.zone_modZone, if_pos rfl, own]
        rfl
      refine ⟨_, taken, ?_, ?_, ?_, ?_, fun y hy => ?_, fun room => findings room⟩
      · rw [frame, State.outOfService, State.modAnalyser, idle]
        rfl
      · rw [out, own]
        rfl
      · rw [out, own]
      · rw [out, own]
      · rw [State.outOfService, State.zone_modZone, if_neg hy, apart y hy, State.zone_modAnalyser]

end Sys2Proof.Proofs

/-! ## CHECK-PASS and its verifications (R154, R155, R163) -/

namespace Sys2Proof.Machine.Grid

open Sys2Proof

theorem ws_firstNight (g : Grid) (t : Nat) : t ≤ g.ws (g.firstNight t) := by
  unfold ws firstNight Config.daySeconds
  omega

/-- On a permitted grid a record of the first night opens COLLECTING at its window's start and WAITING before it (R91). -/
theorem openingState_firstNight {g : Grid} (permitted : gridFault g = none) (t : Nat) :
    g.openingState (g.firstNight t) t = if t = g.ws (g.firstNight t) then .collecting else .waiting := by
  obtain ⟨window, length, -, -⟩ := lengths_of_gridFault permitted
  have first := g.ws_firstNight t
  have later : g.ws (g.firstNight t) < g.we (g.firstNight t) := by
    rw [we, window]
    omega
  unfold openingState
  by_cases start : t = g.ws (g.firstNight t)
  · rw [if_neg (by omega), if_pos (by omega), if_pos start]
  · rw [if_pos (by omega), if_neg start]

end Sys2Proof.Machine.Grid

namespace Sys2Proof.Machine.State

open Sys2Proof

theorem memberSet_verify (s : State) (e : Subject) (z : ZoneId) : (s.verify e).memberSet z = s.memberSet z :=
  Proofs.memberSet_of_slots ((Safety.SlotsKept.refl s).verify e) z

section

variable {s : State}

theorem enterRun_off_grid (off : 4294967295 < s.time.grid.deadline (s.time.grid.firstNight s.time.partTime)) :
    s.enterRun = s.modCtl fun c => { c with mode := .setup } :=
  if_neg fun on => absurd (of_decide_eq_true on) (Nat.not_le.mpr off)

/-- A zone in service opens the record of the first night (R91, R163). -/
def runOpened (s : State) (z : ZoneId) (x : Zone) : Zone :=
  if x.inService then { x with record := some (s.newRecord z (s.time.grid.firstNight s.time.partTime)) } else x

section

variable (on : s.time.grid.deadline (s.time.grid.firstNight s.time.partTime) ≤ 4294967295)
include on

theorem enterRun_on_grid : s.enterRun =
    (((s.mapZones s.runOpened).modCtl fun c => { c with mode := .run }).unlatch flagRestarted).latch flagReady :=
  if_pos (decide_eq_true on)

theorem zone_enterRun (z : ZoneId) : s.enterRun.zone z = s.runOpened z (s.zone z) := by
  rw [enterRun_on_grid on, latch, unlatch, zone_modAttn, zone_modAttn, zone_modCtl, zone_mapZones]

theorem enterRun_frame : s.enterRun =
    { s with zones := s.enterRun.zones, ctl := { s.ctl with mode := .run }, attn := s.enterRun.attn } := by
  obtain ⟨zones, opened⟩ : ∃ zones, s.mapZones s.runOpened = { s with zones := zones } := ⟨_, rfl⟩
  rw [enterRun_on_grid on, opened]
  rfl

/-- RESTARTED goes and READY comes (R174). -/
theorem attn_enterRun : s.enterRun.attn = { s.attn with latched := (s.attn.latched &&& 0xDF) ||| 0x40 } := by
  have others : ~~~flagRestarted = 0xDF := by decide
  rw [enterRun_on_grid on, unlatch, others]
  rfl

end

end

end Sys2Proof.Machine.State

namespace Sys2Proof.Proofs

open Sys2Proof Machine Safety

section

variable {s : State} {p : CheckPass} (flight : s.checker.pass = some p)
include flight

theorem exec_checkPassVerify : exec .checkPassVerify s = .next (s.passVerify p) := by
  refine congrArg Host.Outcome.next ?_
  rw [flight]

variable {v ended : State} {found : Nat} (hv : v = s.verify (entryOf p.next))
  (hfound : found = p.mismatches + (if s.entryMatches (entryOf p.next) then 0 else 1))
include hv hfound

omit flight hv in
/-- The mismatches of the pass with its next verification. -/
theorem passVerify_found : (if s.entryMatches (entryOf p.next) then p.mismatches else p.mismatches + 1) = found := by
  rw [hfound]
  split <;> rfl

omit flight in
/-- A verification before the last: the pass advances. -/
theorem passVerify_of_lt (before : p.next.val < 175) : s.passVerify p =
    { v with checker := { s.checker with pass := some { p with next := p.next + 1, mismatches := found } } } := by
  have seen : (s.verify (entryOf p.next)).checker = s.checker := by rw [Laws.verify_onlyFault s (entryOf p.next)]
  unfold State.passVerify
  dsimp only
  rw [if_neg (by omega), passVerify_found hfound, hv, State.modChecker, seen]

variable (last : p.next.val = 175)
  (hended : ended = { v with checker := { s.checker with
    pass := none, lastPass := some { origin := p.origin, abandoned := false, checked := 176, mismatches := found } } })
include last hended

omit flight in
/-- The last verification ends the pass, and a start-up pass the STARTING mode (R163). -/
theorem passVerify_of_last :
    s.passVerify p = if p.origin = .startUp ∧ s.mode = .starting then ended.enterRun else ended := by
  have seen : (s.verify (entryOf p.next)).checker = s.checker := by rw [Laws.verify_onlyFault s (entryOf p.next)]
  have done : ended = (s.verify (entryOf p.next)).modChecker fun c => { c with
      pass := none, lastPass := some { origin := p.origin, abandoned := false, checked := 176, mismatches := found } } := by
    rw [hended, hv, State.modChecker, seen]
  unfold State.passVerify
  dsimp only
  rw [if_pos last, passVerify_found hfound, ← done]
  cases p.origin with
  | request => simp
  | startUp => simp

end

/-- A record as R91 opens it. -/
theorem newRecord_state (s : State) (z : ZoneId) (night : Nat) : (s.newRecord z night).state =
    (if s.time.partTime < s.time.grid.ws night then .waiting
      else if s.time.partTime < s.time.grid.we night then .collecting
      else if s.time.partTime < s.time.grid.deadline night then .draining else .closing) := rfl

/-- Settles O48: the request by whether a pass is in flight, the verification by how far the pass has come. -/
theorem checkPassVerifiesEveryEntry : Obligations.CheckPassVerifiesEveryEntry := by
  refine ⟨fun ft s f hf free => ?_, fun s idle => ?_, fun s v p found flight hv hfound => ?_⟩
  · have taken := exec_of_free State.checkPass rfl hf free
    refine ⟨fun busy => exec_refuses taken free.1 (if_pos (Option.isSome_iff_ne_none.mpr busy)), fun idle => ?_⟩
    have begun : (s.inHand f).checkPass = ((s.inHand f).modChecker fun c =>
        { c with pass := some { origin := .request, next := 0, mismatches := 0 } }).answer .accepted [] :=
      if_neg (show ¬s.checker.pass.isSome = true by simp [idle])
    exact exec_answers taken free.1 (t := s.modChecker fun c =>
      { c with pass := some { origin := .request, next := 0, mismatches := 0 } }) begun
  · refine congrArg Host.Outcome.next ?_
    rw [idle]
  · have taken := exec_checkPassVerify flight
    refine ⟨fun before => taken.trans (congrArg _ (passVerify_of_lt hv hfound before)), fun ended last hended => ?_⟩
    rw [passVerify_of_last hv hfound last hended] at taken
    have only := Laws.verify_onlyFault s (entryOf p.next)
    have members := s.memberSet_verify (entryOf p.next)
    rw [← hv] at only members
    have time : ended.time = s.time := by rw [hended, only]
    have ctl : ended.ctl = s.ctl := by rw [hended, only]
    refine ⟨fun other => ?_, fun startUp starting _ off => ?_, fun startUp starting _ on => ?_⟩
    · rwa [if_neg fun ⟨startUp, starting⟩ => other.elim (by simp [startUp]) (· starting)] at taken
    · rw [if_pos ⟨startUp, starting⟩, State.enterRun_off_grid (time ▸ off), State.modCtl, ctl] at taken
      exact taken
    · rw [if_pos ⟨startUp, starting⟩] at taken
      have on' : ended.time.grid.deadline (ended.time.grid.firstNight ended.time.partTime) ≤ 4294967295 := time ▸ on
      refine ⟨_, taken, ctl ▸ State.enterRun_frame on', State.attn_enterRun on', fun z => ?_⟩
      · rw [State.zone_enterRun on', State.runOpened]
        refine ⟨fun out => if_neg (Bool.eq_false_iff.mp out), fun service => ⟨_, if_pos service, ?_⟩⟩
        have sameMembers : ended.memberSet z = s.memberSet z := by
          rw [← members z, hended]
          rfl
        refine ⟨by rw [time]; rfl, by rw [newRecord_state, time]; rfl, fun permitted => ?_, rfl, rfl, ?_, ?_⟩
        · have opens := Grid.openingState_firstNight permitted s.time.partTime
          rw [← time] at opens ⊢
          exact opens
        · rw [← time]
          rfl
        · rw [← sameMembers]
          rfl

end Sys2Proof.Proofs

/-! ## The reads that change nothing (R108, R122, R142, R156, R187) -/

namespace Sys2Proof.Machine.State

open Sys2Proof Proofs

theorem length_statusBytes (s : State) : s.statusBytes.length = 24 := by
  have analysing : ∀ o : Option Nat, (encOrNone o).length = 1 := fun o => by cases o <;> rfl
  have pass : ∀ o : Option CheckPass, (encOption 2 (o.map passBytes)).length = 3 := fun o => by cases o <;> rfl
  have lastPass : ∀ o : Option PassResult, (encOption 4 (o.map passResultBytes)).length = 5 := fun o => by cases o <;> rfl
  simp only [statusBytes, List.length_append, analysing, pass, lastPass]
  rfl

section

variable {s : State} {zone part first : Byte} {z : ZoneId}

theorem nightGet_of_far (far : 47 < zone.toNat) : s.nightGet zone part first = s.refuse .range 0 := by
  rw [nightGet, zoneOf_eq_none far]

section

variable (named : zone.toNat = z.val)
include named

theorem nightGet_of_part (far : 2 < part.toNat) : s.nightGet zone part first = s.refuse .range 1 := by
  rw [nightGet, zoneOf_eq_some named]
  exact if_pos far

theorem nightGet_summary : s.nightGet zone 0 first = s.answer .ok (s.summaryBytes z) := by
  rw [nightGet, zoneOf_eq_some named]
  rfl

/-- The bins that VOLUMES (1) or PRESSURE (2) shows of a record. -/
def binsBytes (part first : Byte) (r : NightRecord) : List Byte :=
  if part = 1 then r.volumesBytes first.toNat else r.pressureBytes first.toNat

variable (bins : part = 1 ∨ part = 2)
include bins

theorem nightGet_of_first (far : 31 < first.toNat) : s.nightGet zone part first = s.refuse .range 2 := by
  rw [nightGet, zoneOf_eq_some named]
  rcases bins with rfl | rfl <;> exact if_pos far

theorem nightGet_bins (near : first.toNat ≤ 31) :
    s.nightGet zone part first = s.nightBins z first.toNat (binsBytes part first) := by
  rw [nightGet, zoneOf_eq_some named]
  rcases bins with rfl | rfl <;> exact if_neg (Nat.not_lt.mpr near)

end

variable {n : Nat} {body : NightRecord → List Byte}

theorem nightBins_of_none (closed : (s.zone z).record = none) : s.nightBins z n body = s.answer .ok [0, 0] := by
  rw [nightBins, closed]
  rfl

theorem nightBins_of_record {r : NightRecord} (opened : (s.zone z).record = some r) : s.nightBins z n body =
    if s.time.grid.binCount ≤ n then s.refuse .range 2 else s.answer .ok (body r) := by
  rw [nightBins, opened]
  rfl

end

end Sys2Proof.Machine.State

namespace Sys2Proof.Proofs

open Sys2Proof Machine Safety

/-- NIGHT-GET's three rows run one owner (R108, log 11). -/
theorem exec_nightGet {ft zone part first : Byte} {s : State} {f : Frame} {c : Instr}
    (row : c = .nightGetSummary ft zone part first ∨ (c = .nightGetVolumes ft zone first ∧ part = 1) ∨
      (c = .nightGetPressure ft zone first ∧ part = 2)) (hf : encodeRequest c = some f) (free : Free s f) :
    exec c s = .next ((s.inHand f).nightGet zone part first) := by
  rcases row with rfl | ⟨rfl, rfl⟩ | ⟨rfl, rfl⟩
  · exact exec_of_free (fun t => t.nightGet zone part first) rfl hf free
  · exact exec_of_free (fun t => t.nightGet zone 1 first) rfl hf free
  · exact exec_of_free (fun t => t.nightGet zone 2 first) rfl hf free

/-- Settles O50: each read by its tests in order. -/
theorem plainReadsChangeNothing : Obligations.PlainReadsChangeNothing := by
  refine ⟨fun ft s f hf free => ?_, fun ft zone s f z hf free => ?_, fun ft zone s f z hf free => ?_,
    fun ft kind number s f hf free => ?_, fun ft zone part first s f c row hf free => ?_⟩
  · exact ⟨exec_answers (exec_of_free (fun t => t.answer .ok t.statusBytes) rfl hf free) free.1 rfl, s.length_statusBytes⟩
  · have taken := exec_of_free (fun t => t.historyGet zone) rfl hf free
    refine ⟨fun far => exec_refuses taken free.1 ?_, fun named unset => exec_refuses taken free.1 ?_,
      fun named configured => exec_answers taken free.1 ?_⟩
    · rw [State.historyGet, zoneOf_eq_none far]
    · rw [State.historyGet, zoneOf_eq_some named]
      exact if_pos unset
    · rw [State.historyGet, zoneOf_eq_some named]
      exact if_neg configured
  · have taken := exec_of_free (fun t => t.baselineGet zone) rfl hf free
    refine ⟨fun far => exec_refuses taken free.1 ?_, fun named unset => exec_refuses taken free.1 ?_,
      fun named configured => exec_answers taken free.1 ?_⟩
    · rw [State.baselineGet, zoneOf_eq_none far]
    · rw [State.baselineGet, zoneOf_eq_some named]
      exact if_pos unset
    · rw [State.baselineGet, zoneOf_eq_some named]
      exact if_neg configured
  · have taken := exec_of_free (fun t => t.entryRaw kind number) rfl hf free
    refine ⟨fun far => exec_refuses taken free.1 ?_, fun isZone far => exec_refuses taken free.1 ?_,
      fun isMeter far => exec_refuses taken free.1 ?_, fun z isZone named => exec_answers taken free.1 ?_,
      fun m isMeter named => exec_answers taken free.1 ?_⟩
    · exact (if_neg (by bv_omega)).trans (if_neg (by bv_omega))
    · subst isZone
      rw [State.entryRaw, zoneOf_eq_none far]
      rfl
    · subst isMeter
      rw [State.entryRaw, slotOf_eq_none far]
      rfl
    · subst isZone
      rw [State.entryRaw, zoneOf_eq_some named]
      simp only [if_true, State.entryRawBytes, encBool, List.append_assoc]
      rfl
    · subst isMeter
      rw [State.entryRaw, slotOf_eq_some named]
      simp only [State.entryRawBytes, encBool, List.append_assoc]
      rfl
  · have taken := exec_nightGet row hf free
    refine ⟨fun far => exec_refuses taken free.1 (State.nightGet_of_far far), fun z named =>
      ⟨fun far => exec_refuses taken free.1 (State.nightGet_of_part named far), ?_,
        fun bins far => exec_refuses taken free.1 (State.nightGet_of_first named bins far), fun bins near closed => ?_,
        fun r bins near opened => ?_⟩⟩
    · rintro rfl
      exact exec_answers taken free.1 (State.nightGet_summary named)
    · exact exec_answers taken free.1 ((State.nightGet_bins named bins near).trans (State.nightBins_of_none closed))
    · have shown := (State.nightGet_bins (s := s.inHand f) named bins near).trans (State.nightBins_of_record opened)
      refine ⟨fun beyond => exec_refuses taken free.1 (shown.trans (if_pos beyond)), ?_, ?_⟩
      · rintro within rfl
        exact exec_answers taken free.1 (shown.trans (if_neg (Nat.not_le.mpr within)))
      · rintro within rfl
        exact exec_answers taken free.1 (shown.trans (if_neg (Nat.not_le.mpr within)))

end Sys2Proof.Proofs

/-! ## The findings of one zone, offered together (R144) -/

namespace Sys2Proof.Machine.State

open Sys2Proof

/-- Findings join in order, as far as the queue has room. -/
theorem findings_offerAll (s : State) (fs : List Finding) :
    (s.offerAll fs).findings = s.findings ++ fs.take (32 - s.findings.length) := by
  induction fs generalizing s with
  | nil => simp [offerAll]
  | cons x fs ih =>
    refine (ih (s.offer x)).trans ?_
    rw [findings_offer]
    split
    next room =>
      obtain ⟨n, hn⟩ : ∃ n, 32 - s.findings.length = n + 1 := ⟨31 - s.findings.length, by omega⟩
      rw [List.length_append, List.length_singleton, ← Nat.sub_sub, hn, List.take_succ_cons, List.append_assoc]
      rfl
    next full =>
      rw [Nat.sub_eq_zero_of_le (Nat.not_lt.mp full), List.take_zero, List.take_zero]

/-- FINDING latches when a finding meets the empty queue, QUEUE-FULL when one finds no room. -/
theorem attn_offerAll (s : State) (fs : List Finding) (bound : s.findings.length ≤ 32) : (s.offerAll fs).attn =
    { s.attn with latched := s.attn.latched ||| ((if s.findings = [] ∧ fs ≠ [] then 0x01 else 0) |||
      (if 32 < s.findings.length + fs.length then 0x02 else 0)) } := by
  induction fs generalizing s with
  | nil =>
    rw [if_neg (by simp), if_neg (by simpa using bound), or_noFlag, or_noFlag]
    rfl
  | cons x fs ih =>
    have filled := findings_offer s x
    by_cases room : s.findings.length < 32
    · rw [if_pos room] at filled
      refine (ih (s.offer x) (by rw [filled, List.length_append, List.length_singleton]; omega)).trans ?_
      have length : (s.offer x).findings.length + fs.length = s.findings.length + (x :: fs).length := by
        rw [filled, List.length_append, List.length_singleton, List.length_cons]
        omega
      have filled : ¬((s.offer x).findings = [] ∧ fs ≠ []) := by simp [filled]
      rw [attn_offer, length, if_neg filled, if_neg (Nat.not_le.mpr room), or_noFlag, noFlag_or, BitVec.or_assoc]
      simp only [ne_eq, reduceCtorEq, not_false_eq_true, and_true]
    · rw [if_neg room] at filled
      refine (ih (s.offer x) (by rw [filled]; exact bound)).trans ?_
      have some_ : s.findings ≠ [] := by rintro empty; simp [empty] at room
      have full : 32 < s.findings.length + (x :: fs).length := by rw [List.length_cons]; omega
      rw [attn_offer, filled, if_pos (Nat.not_lt.mp room), if_pos full]
      simp only [some_, false_and, if_false, noFlag_or, BitVec.or_assoc]
      split
      · rw [BitVec.or_self]
      · rw [or_noFlag]

section

variable {z : ZoneId} {fs : List Finding} (subject : ∀ x ∈ fs, x.subject = .zone z)
include subject

theorem zone_offerAll_other (s : State) {y : ZoneId} (apart : y ≠ z) : (s.offerAll fs).zone y = s.zone y := by
  induction fs generalizing s with
  | nil => rfl
  | cons x fs ih =>
    obtain ⟨first, subject⟩ := List.forall_mem_cons.mp subject
    refine (ih subject (s.offer x)).trans ?_
    rw [zone_offer_zone s first, if_neg apart]

/-- The zone's mark is set when one of its findings is lost. -/
theorem zone_offerAll_own (s : State) (bound : s.findings.length ≤ 32) : (s.offerAll fs).zone z =
    { s.zone z with lost := (s.zone z).lost || decide (32 < s.findings.length + fs.length) } := by
  induction fs generalizing s with
  | nil => simp [offerAll, Nat.not_lt.mpr bound]
  | cons x fs ih =>
    obtain ⟨first, subject⟩ := List.forall_mem_cons.mp subject
    have filled := findings_offer s x
    have length : (s.offer x).findings.length ≤ 32 ∧
        (32 ≤ s.findings.length ∨ 32 < (s.offer x).findings.length + fs.length ↔
          32 < s.findings.length + (x :: fs).length) := by
      rw [filled, List.length_cons]
      split
      · rw [List.length_append, List.length_singleton]
        omega
      · omega
    refine (ih subject (s.offer x) length.1).trans ?_
    rw [zone_offer_zone s first, if_pos rfl, Bool.or_assoc, ← Bool.decide_or]
    simp only [length.2]

theorem offerAll_zone_frame (s : State) : s.offerAll fs =
    { s with zones := (s.offerAll fs).zones, findings := (s.offerAll fs).findings, attn := (s.offerAll fs).attn } := by
  induction fs generalizing s with
  | nil => rfl
  | cons x fs ih =>
    obtain ⟨first, subject⟩ := List.forall_mem_cons.mp subject
    have later := ih subject (s.offer x)
    rw [show s.offerAll (x :: fs) = (s.offer x).offerAll fs from rfl]
    generalize (s.offer x).offerAll fs = t at later ⊢
    rw [later, offer_zone_frame s first]
    rfl

end

/-! ### Findings beside other work -/

theorem state_ext {s t : State} (rest : s = { t with zones := s.zones }) (zones : ∀ z, s.zone z = t.zone z) : s = t := by
  rw [rest, Proofs.zones_ext zones]

section

variable (s : State) {z : ZoneId} {x : Finding} (subject : x.subject = .zone z)
include subject

/-- A change of a zone that does not look at its finding-lost mark can be made before or after the finding. -/
theorem offer_modZone {f : Zone → Zone} (hf : ∀ y b, f { y with lost := b } = { f y with lost := b })
    (lost : ∀ y, (f y).lost = y.lost) : (s.offer x).modZone z f = (s.modZone z f).offer x := by
  have same := offer_congr (s := s) (u := s.modZone z f) rfl rfl x
  refine state_ext ?_ fun y => ?_
  · rw [offer_zone_frame s subject, offer_zone_frame (s.modZone z f) subject, same.1, same.2]
    rfl
  · rw [zone_modZone, zone_offer_zone _ subject, zone_offer_zone _ subject, zone_offer_zone _ subject, zone_modZone,
      zone_modZone, if_pos rfl, if_pos rfl, hf, lost]
    split <;> rfl

/-- The analyser may be freed before or after the finding is offered (R106). -/
theorem offer_freeAnalyser : (s.offer x).freeAnalyser z = (s.freeAnalyser z).offer x := by
  have queue : ((s.freeAnalyser z).offer x).findings = (s.offer x).findings :=
    (findings_offer (s.freeAnalyser z) x).trans (findings_offer s x).symm
  have flags : ((s.freeAnalyser z).offer x).attn = ((s.offer x).freeAnalyser z).attn := by
    have later : ((s.offer x).freeAnalyser z).attn =
        { (s.offer x).attn with latched := (s.offer x).attn.latched ||| flagNightClosed } := rfl
    have swap (l q n : Byte) : l ||| n ||| q = l ||| q ||| n := by rw [BitVec.or_assoc, BitVec.or_comm n, ← BitVec.or_assoc]
    rw [later, attn_offer, attn_offer]
    exact congrArg (fun l => ({ s.attn with latched := l } : Attention)) (swap _ _ _)
  have frame := offer_zone_frame s subject
  rw [offer_zone_frame (s.freeAnalyser z) subject, queue, flags]
  generalize s.offer x = u at frame ⊢
  rw [frame]
  rfl

end

section

variable {z : ZoneId} {fs : List Finding} (subject : ∀ x ∈ fs, x.subject = .zone z)
include subject

/-- What commutes with each finding commutes with all of them. -/
theorem offerAll_of_offer {f : State → State} (each : ∀ s x, x.subject = .zone z → f (s.offer x) = (f s).offer x)
    (s : State) : f (s.offerAll fs) = (f s).offerAll fs := by
  induction fs generalizing s with
  | nil => rfl
  | cons x fs ih =>
    obtain ⟨first, subject⟩ := List.forall_mem_cons.mp subject
    refine (ih subject (s.offer x)).trans ?_
    rw [each s x first]
    rfl

end

end Sys2Proof.Machine.State

/-! ## What a night's outcome leaves alone, and what it finds (R127, R143) -/

namespace Sys2Proof.Machine.Zone

open Sys2Proof

/-- Zones x and y differ at most in what a night's outcome may write: the condition kept, the history and the counts, and the
baseline state. -/
def OnlyOutcome (x y : Zone) : Prop :=
  y = { x with kept := y.kept, history := y.history, run := y.run, episodes := y.episodes, baseline := y.baseline
               spread := y.spread, settling := y.settling }

theorem OnlyOutcome.trans {x y z : Zone} (h : OnlyOutcome x y) (h' : OnlyOutcome y z) : OnlyOutcome x z := by
  cases x; cases y; cases z
  simp only [OnlyOutcome, Zone.mk.injEq] at *
  simp_all

section

variable {x y : Zone} (h : OnlyOutcome x y)
include h

theorem OnlyOutcome.entry : y.entry = x.entry := by
  have same := congrArg Zone.entry h
  exact same

theorem OnlyOutcome.mark : y.mark = x.mark := by
  have same := congrArg Zone.mark h
  exact same

theorem OnlyOutcome.holdFlag : y.holdFlag = x.holdFlag := by
  have same := congrArg Zone.holdFlag h
  exact same

theorem OnlyOutcome.lost : y.lost = x.lost := by
  have same := congrArg Zone.lost h
  exact same

end

variable (z : Zone) (x : ZoneSettings)

theorem learn_onlyOutcome (v : NightOutcome) (c : Int) : OnlyOutcome z (z.learn x v c) := by
  unfold learn
  split
  · rfl
  · split <;> rfl
  all_goals rfl

theorem move_onlyOutcome (v : NightOutcome) : OnlyOutcome z (z.move x v).1 := by
  have suspicion : OnlyOutcome z (z.enterSuspicion x).1 := by
    unfold enterSuspicion
    dsimp only
    split <;> rfl
  cases v with
  | normal =>
    unfold move onNormal
    dsimp only
    split
    iterate 3 split <;> rfl
    all_goals rfl
  | exceed =>
    unfold move onExceed
    dsimp only
    split
    · split
      · exact suspicion
      · rfl
    · split
      · exact suspicion
      · rfl
    · exact suspicion
    all_goals rfl
  | burst =>
    unfold move onBurst
    dsimp only
    split <;> rfl
  | settling | balance | incomplete | held => rfl

theorem work_onlyOutcome (zid : ZoneId) (night : Nat) (cls : NightClass) : OnlyOutcome z (z.work x zid night cls).1 := by
  cases cls with
  | judged complete mnf start answer factor c =>
    have learnt := learn_onlyOutcome z x (z.verdict x c) c
    have counted : OnlyOutcome z { (z.learn x (z.verdict x c) c).addHistory
        { night := night, outcome := z.verdict x c, corrected := some c, excess := some (c - z.baseline), mnf := some mnf,
          uncorrected := answer.uncorrected } with
          run := runAfter (z.learn x (z.verdict x c) c).run (z.verdict x c) } := learnt.trans rfl
    exact counted.trans (move_onlyOutcome _ x _)
  | held | membershipChanged | short | ended | balance => rfl

/-- A night's outcome leaves UNCONFIGURED zones so, and makes no other zone UNCONFIGURED (R127). -/
theorem kept_work_iff (zid : ZoneId) (night : Nat) (cls : NightClass) :
    (z.work x zid night cls).1.kept = .unconfigured ↔ z.kept = .unconfigured := by
  rcases (Safety.ZoneKeeps.worked_work z x zid night cls).drift with same | ⟨⟨before, -⟩, after, -⟩
  · rw [same]
  · exact iff_of_false after before

theorem outOfService_lost (y : Zone) (b : Bool) :
    ({ y with lost := b } : Zone).outOfService = { y.outOfService with lost := b } := by
  unfold outOfService
  dsimp only
  split <;> rfl

theorem lost_outOfService (y : Zone) : y.outOfService.lost = y.lost := by
  unfold outOfService
  split <;> rfl

theorem condition_eq_unconfigured_iff :
    z.condition = .unconfigured ↔ (z.mark = false ∧ z.entry.configured = 0) ∨ z.kept = .unconfigured := by
  rcases Safety.condition_cases z with ⟨blank, unset⟩ | ⟨filled, kept⟩
  · exact iff_of_true unset (.inl blank)
  · rw [kept, or_iff_right filled]

/-- The findings of a night are about its zone. -/
theorem subject_work (zid : ZoneId) (night : Nat) (cls : NightClass) :
    ∀ f ∈ (z.work x zid night cls).2, f.subject = .zone zid := by
  cases cls with
  | judged complete mnf start answer factor c =>
    intro f hf
    simp only [work, workJudged, List.mem_append] at hf
    rcases hf with settled | moved
    · split at settled
      · obtain rfl := List.mem_singleton.mp settled
        rfl
      · exact absurd settled List.not_mem_nil
    · split at moved
      · exact absurd moved List.not_mem_nil
      · obtain rfl := List.mem_singleton.mp moved
        rfl
  | balance complete mnf start =>
    intro f hf
    obtain rfl := List.mem_singleton.mp hf
    rfl
  | held | membershipChanged | short | ended => exact fun f hf => absurd hf List.not_mem_nil

end Sys2Proof.Machine.Zone

/-! ## NIGHT_ANALYSIS_END (R106) -/

namespace Sys2Proof.Machine

open Sys2Proof

namespace State

/-- A record is opened by part time, the grid, the members and the hold (R91, R93). -/
theorem recordFor_congr {s t : State} {z : ZoneId} (time : t.time = s.time) (meters : t.meters = s.meters)
    (hold : t.holdActive z = s.holdActive z) (night : Nat) : t.recordFor z night = s.recordFor z night := by
  unfold recordFor newRecord grid now
  rw [time, hold, Proofs.memberSet_congr meters]

/-- A hold goes by the lines, the zone's flag and entry, and whether it is UNCONFIGURED (R137). -/
theorem holdActive_of_fields {s t : State} {z : ZoneId} (channels : t.channels = s.channels)
    (entry : (t.zone z).entry = (s.zone z).entry) (flag : (t.zone z).holdFlag = (s.zone z).holdFlag)
    (unset : (t.zone z).condition = .unconfigured ↔ (s.zone z).condition = .unconfigured) :
    t.holdActive z = s.holdActive z := by
  have line : t.lineAsserted (chanOf (s.zone z).entry.settings.holdLine) =
      s.lineAsserted (chanOf (s.zone z).entry.settings.holdLine) := by
    unfold lineAsserted channel
    rw [channels]
  have configured : ((t.zone z).condition != .unconfigured) = ((s.zone z).condition != .unconfigured) := by
    rw [Bool.eq_iff_iff, bne_iff_ne, bne_iff_ne, ne_eq, ne_eq, unset]
  unfold holdActive
  rw [entry, flag, line, configured]

end State

namespace Zone

/-- A zone whose night is closed (R106): the last close record is written, and the record gives way to the next. -/
def nightClosed (c : CloseRecord) (next : Option NightRecord) (x : Zone) : Zone :=
  { x with lastClose := some c, record := next }

variable (c : CloseRecord) (next : Option NightRecord) (x : Zone)

theorem lost_nightClosed : (x.nightClosed c next).lost = x.lost := rfl

theorem nightClosed_eq (b : Bool) :
    { x.nightClosed c next with lost := b } = { x with lastClose := some c, record := next, lost := b } := rfl

theorem outOfService_nightClosed {x : Zone} (configured : x.kept ≠ .unconfigured) (b : Bool) :
    { (x.nightClosed c next).outOfService with lost := b } =
      { x with lastClose := some c, kept := .fault, record := none, lost := b } := by
  rw [outOfService_of_configured (x := x.nightClosed c next) configured]
  rfl

end Zone

namespace State

/-- The last close record and the next record are written together (R106 steps 2 and 3). -/
theorem writeClose_modZone (s : State) (z : ZoneId) (night : Nat) (cls : NightClass) (next : Option NightRecord) :
    ((s.writeClose z night cls).modZone z fun x => { x with record := next }) =
      s.modZone z (Zone.nightClosed ⟨night, cls⟩ next) := modZone_modZone ..

/-- A zone's night may be closed before or after its findings are offered. -/
theorem offerAll_nightClosed {z : ZoneId} {fs : List Finding} (subject : ∀ x ∈ fs, x.subject = .zone z) (s : State)
    (y : Zone) (c : CloseRecord) (next : Option NightRecord) :
    ((s.putZone z y).offerAll fs).modZone z (Zone.nightClosed c next) =
      (s.putZone z (y.nightClosed c next)).offerAll fs := by
  have moved := offerAll_of_offer subject (f := fun t => t.modZone z (Zone.nightClosed c next))
    (fun t x hx => offer_modZone t hx (fun _ _ => rfl) fun _ => rfl) (s.putZone z y)
  rwa [modZone_putZone] at moved

section

variable (s : State) (a : Analysis) (r : NightRecord)

/-- The zone's part of the night's outcome, and its findings (R106 step 1). -/
def nightWork : Zone × List Finding := (s.zone a.zone).work a.settings a.zone r.night (s.judge a r)

/-- The zone of the analysis with its night closed. -/
def closedZone : Zone :=
  (s.nightWork a r).1.nightClosed { night := r.night, cls := s.judge a r } (s.recordFor a.zone (r.night + 1))

theorem nightWork_subject : ∀ x ∈ (s.nightWork a r).2, x.subject = .zone a.zone := Zone.subject_work _ _ _ _ _

theorem nightWork_onlyOutcome : (s.zone a.zone).OnlyOutcome (s.nightWork a r).1 := Zone.work_onlyOutcome _ _ _ _ _

theorem kept_nightWork_iff : (s.nightWork a r).1.kept = .unconfigured ↔ (s.zone a.zone).kept = .unconfigured :=
  Zone.kept_work_iff _ _ _ _ _

theorem handOutcome_judge : s.handOutcome a.zone a.settings r.night (s.judge a r) =
    (s.putZone a.zone (s.nightWork a r).1).offerAll (s.nightWork a r).2 := rfl

theorem lost_closedZone : (s.closedZone a r).lost = (s.zone a.zone).lost := by
  rw [closedZone, Zone.lost_nightClosed, (s.nightWork_onlyOutcome a r).lost]

variable (bound : s.findings.length ≤ 32)
include bound

/-- The next record is opened by the state before the outcome (R106). -/
theorem recordFor_worked : ((s.handOutcome a.zone a.settings r.night (s.judge a r)).writeClose a.zone r.night
    (s.judge a r)).recordFor a.zone (r.night + 1) = s.recordFor a.zone (r.night + 1) := by
  have subject := s.nightWork_subject a r
  have only := s.nightWork_onlyOutcome a r
  have kept := s.kept_nightWork_iff a r
  have frame := offerAll_zone_frame subject (s.putZone a.zone (s.nightWork a r).1)
  have own := zone_offerAll_own subject (s.putZone a.zone (s.nightWork a r).1) bound
  rw [zone_putZone, if_pos rfl] at own
  rw [handOutcome_judge]
  generalize (s.nightWork a r).1 = y at only kept frame own ⊢
  generalize (s.putZone a.zone y).offerAll (s.nightWork a r).2 = t at frame own ⊢
  have closed : (t.writeClose a.zone r.night (s.judge a r)).zone a.zone =
      { t.zone a.zone with lastClose := some ⟨r.night, s.judge a r⟩ } := (zone_modZone ..).trans (if_pos rfl)
  refine recordFor_congr ?_ ?_ (holdActive_of_fields ?_ ?_ ?_ ?_) _
  · rw [frame]
    rfl
  · rw [frame]
    rfl
  · rw [frame]
    rfl
  · rw [closed, own]
    exact only.entry
  · rw [closed, own]
    exact only.holdFlag
  · rw [closed, own, Zone.condition_eq_unconfigured_iff, Zone.condition_eq_unconfigured_iff]
    exact or_congr (and_congr (by rw [only.mark]) (by rw [only.entry])) kept

/-- The night is closed, and then its findings are offered. -/
theorem closeNight_eq : s.closeNight a r = (s.putZone a.zone (s.closedZone a r)).offerAll (s.nightWork a r).2 := by
  unfold closeNight
  dsimp only
  rw [s.recordFor_worked a r bound, writeClose_modZone, handOutcome_judge, offerAll_nightClosed (s.nightWork_subject a r),
    closedZone]

variable {s a r} (held : s.analyser.analysing = some a) (record : (s.zone a.zone).record = some r)
include held record

theorem analysisEnd_of_plain (plain : a.deferredFault = false) : s.analysisEnd =
    ((s.putZone a.zone (s.closedZone a r)).freeAnalyser a.zone).offerAll (s.nightWork a r).2 := by
  have freed := offerAll_of_offer (s.nightWork_subject a r) (f := fun t => t.freeAnalyser a.zone)
    (fun t x hx => offer_freeAnalyser t hx) (s.putZone a.zone (s.closedZone a r))
  rw [← closeNight_eq s a r bound] at freed
  unfold analysisEnd
  simp only [held, record]
  rw [if_neg (Bool.eq_false_iff.mp plain)]
  exact freed

/-- An entry fault that waited takes the closed zone out of service, and its finding comes last (R97, R148). -/
theorem analysisEnd_of_deferred (deferred : a.deferredFault = true) : s.analysisEnd =
    ((s.putZone a.zone (s.closedZone a r).outOfService).freeAnalyser a.zone).offerAll
      ((s.nightWork a r).2 ++ [entryFaultFinding (.zone a.zone)]) := by
  have freed := offerAll_of_offer (s.nightWork_subject a r)
    (f := fun t => (t.freeAnalyser a.zone).modZone a.zone Zone.outOfService)
    (fun t x hx => by
      rw [offer_freeAnalyser t hx]
      exact offer_modZone _ hx Zone.outOfService_lost Zone.lost_outOfService) (s.putZone a.zone (s.closedZone a r))
  have out : ((s.putZone a.zone (s.closedZone a r)).freeAnalyser a.zone).modZone a.zone Zone.outOfService =
      (s.putZone a.zone (s.closedZone a r).outOfService).freeAnalyser a.zone := by
    rw [← modZone_putZone]
    rfl
  rw [← closeNight_eq s a r bound, out] at freed
  unfold analysisEnd
  simp only [held, record]
  rw [if_pos deferred, finishFault, offerAll, List.foldl_append]
  exact congrArg (fun t => t.offer (entryFaultFinding (.zone a.zone))) freed

end

end State

end Sys2Proof.Machine

/-! ### The flags at the end of an analysis (R106, R168, R169) -/

namespace Sys2Proof.Machine

open Sys2Proof

/-- The flags that the end of an analysis latches: NIGHT-CLOSED, FINDING when a finding meets the empty queue, QUEUE-FULL
when one finds no room. -/
def endFlags (joins full : Prop) [Decidable joins] [Decidable full] : Byte :=
  0x80 ||| ((if joins then 0x01 else 0) ||| (if full then 0x02 else 0))

theorem latched_of_set {l flags m : Byte} (set : flags &&& m = m) : (l ||| flags) &&& m = m := by
  rw [BitVec.and_or_distrib_right, set]
  ext i
  simp

theorem latched_of_clear {l flags m : Byte} (clear : flags &&& m = 0) : (l ||| flags) &&& m = l &&& m := by
  rw [BitVec.and_or_distrib_right, clear]
  exact BitVec.or_zero

section

variable {joins full : Prop} [Decidable joins] [Decidable full]

theorem endFlags_nightClosed : endFlags joins full &&& 0x80 = 0x80 := by
  unfold endFlags
  split <;> split <;> decide

theorem endFlags_others : endFlags joins full &&& 0x7C = 0 := by
  unfold endFlags
  split <;> split <;> decide

theorem endFlags_finding : endFlags joins full &&& 0x01 = if joins then 0x01 else 0 := by
  unfold endFlags
  split <;> split <;> decide

theorem endFlags_queueFull : endFlags joins full &&& 0x02 = if full then 0x02 else 0 := by
  unfold endFlags
  split <;> split <;> decide

end

/-- State s with the analysis of zone z ended: the zone written, the analyser free, the findings offered. -/
def State.ended (s : State) (z : ZoneId) (x : Zone) (fs : List Finding) : State :=
  ((s.putZone z x).freeAnalyser z).offerAll fs

namespace State

section

variable {s : State} {z : ZoneId} {x : Zone} {fs : List Finding}

theorem findings_ended : (s.ended z x fs).findings = s.findings ++ fs.take (32 - s.findings.length) := findings_offerAll _ fs

theorem attn_ended (bound : s.findings.length ≤ 32) : (s.ended z x fs).attn = { s.attn with
    latched := s.attn.latched ||| endFlags (s.findings = [] ∧ fs ≠ []) (32 < s.findings.length + fs.length) } := by
  refine (attn_offerAll ((s.putZone z x).freeAnalyser z) fs bound).trans ?_
  exact congrArg (fun l => ({ s.attn with latched := l } : Attention)) (BitVec.or_assoc s.attn.latched flagNightClosed _)

variable (subject : ∀ f ∈ fs, f.subject = .zone z)
include subject

theorem ended_frame : s.ended z x fs =
    { s with zones := (s.ended z x fs).zones, analyser := { s.analyser with analysing := none }
             findings := (s.ended z x fs).findings, attn := (s.ended z x fs).attn, ctl := (s.ended z x fs).ctl } ∧
      (s.ended z x fs).ctl =
        { s.ctl with leaving := s.ctl.leaving.map fun l => { l with analysed := l.analysed.insert z } } := by
  have frame := offerAll_zone_frame subject ((s.putZone z x).freeAnalyser z)
  unfold ended
  generalize ((s.putZone z x).freeAnalyser z).offerAll fs = t at frame ⊢
  rw [frame]
  exact ⟨rfl, rfl⟩

theorem zone_ended_other {y : ZoneId} (apart : y ≠ z) : (s.ended z x fs).zone y = s.zone y :=
  (zone_offerAll_other subject _ apart).trans ((zone_putZone s z y x).trans (if_neg apart))

theorem zone_ended_own (bound : s.findings.length ≤ 32) : (s.ended z x fs).zone z =
    { x with lost := x.lost || decide (32 < s.findings.length + fs.length) } := by
  have own : ((s.putZone z x).freeAnalyser z).zone z = x := (zone_putZone s z z x).trans (if_pos rfl)
  refine (zone_offerAll_own subject ((s.putZone z x).freeAnalyser z) bound).trans ?_
  rw [own]
  rfl

theorem zone_ended_but_lost (bound : s.findings.length ≤ 32) :
    (s.ended z x fs).zone z = { x with lost := ((s.ended z x fs).zone z).lost } := by
  rw [zone_ended_own subject bound]

theorem lost_ended (bound : s.findings.length ≤ 32) :
    ((s.ended z x fs).zone z).lost = (x.lost || decide (32 < s.findings.length + fs.length)) := by
  rw [zone_ended_own subject bound]

end

end State

end Sys2Proof.Machine

namespace Sys2Proof.Machine.State

open Sys2Proof

section

variable (s : State) (a : Analysis) (r : NightRecord)

/-- The zone of the analysis when it has ended: its night closed, and out of service when an entry fault waited. -/
def endedZone : Zone := if a.deferredFault then (s.closedZone a r).outOfService else s.closedZone a r

/-- The findings that the end of the analysis offers: those of the night, then that of an entry fault that waited. -/
def endFindings : List Finding :=
  (s.nightWork a r).2 ++ (if a.deferredFault then [entryFaultFinding (.zone a.zone)] else [])

theorem endFindings_subject : ∀ f ∈ s.endFindings a r, f.subject = .zone a.zone := by
  refine List.forall_mem_append.mpr ⟨s.nightWork_subject a r, fun f hf => ?_⟩
  split at hf
  · obtain rfl := List.mem_singleton.mp hf
    rfl
  · exact absurd hf List.not_mem_nil

theorem lost_endedZone : (s.endedZone a r).lost = (s.zone a.zone).lost := by
  unfold endedZone
  split
  · rw [Zone.lost_outOfService, lost_closedZone]
  · exact s.lost_closedZone a r

variable {s a r}

theorem endedZone_of_plain (plain : a.deferredFault = false) (b : Bool) : { s.endedZone a r with lost := b } =
    { (s.nightWork a r).1 with lastClose := some { night := r.night, cls := s.judge a r }
                               record := s.recordFor a.zone (r.night + 1), lost := b } := by
  rw [endedZone, if_neg (Bool.eq_false_iff.mp plain), closedZone, Zone.nightClosed_eq]

theorem endedZone_of_deferred (deferred : a.deferredFault = true) (configured : (s.zone a.zone).kept ≠ .unconfigured)
    (b : Bool) : { s.endedZone a r with lost := b } =
      { (s.nightWork a r).1 with lastClose := some { night := r.night, cls := s.judge a r }
                                 kept := .fault, record := none, lost := b } := by
  have kept : (s.nightWork a r).1.kept ≠ .unconfigured := fun unset => configured ((s.kept_nightWork_iff a r).mp unset)
  rw [endedZone, if_pos deferred, closedZone, Zone.outOfService_nightClosed _ _ kept]

theorem analysisEnd_eq (held : s.analyser.analysing = some a) (record : (s.zone a.zone).record = some r)
    (bound : s.findings.length ≤ 32) : s.analysisEnd = s.ended a.zone (s.endedZone a r) (s.endFindings a r) := by
  cases deferred : a.deferredFault with
  | true =>
    rw [endedZone, endFindings, if_pos deferred, if_pos deferred]
    exact analysisEnd_of_deferred bound held record deferred
  | false =>
    have plain := Bool.eq_false_iff.mp deferred
    rw [endedZone, endFindings, if_neg plain, if_neg plain, List.append_nil]
    exact analysisEnd_of_plain bound held record deferred

theorem recordFor_off_grid {night : Nat} (z : ZoneId) (off : 4294967295 < s.time.grid.deadline night) :
    s.recordFor z night = none := if_neg fun on => absurd (of_decide_eq_true on) (Nat.not_le.mpr off)

theorem recordFor_on_grid {night : Nat} (z : ZoneId) (on : s.time.grid.deadline night ≤ 4294967295) :
    s.recordFor z night = some (s.newRecord z night) := if_pos (decide_eq_true on)

end

end Sys2Proof.Machine.State

namespace Sys2Proof.Proofs

open Sys2Proof Machine State

/-- Settles O32: the analysis ends in one state, whose zone, findings and flags are read off one after another. -/
theorem analysisEndClosesNight : Obligations.AnalysisEndClosesNight := by
  refine ⟨fun s idle => ?_, ?_⟩
  · refine congrArg Host.Outcome.next ?_
    rw [analysisEnd, idle]
  rintro s a r cls w offered full held record rfl rfl configured hoffered hfull bound
  obtain rfl : offered = s.endFindings a r := hoffered
  have subject := s.endFindings_subject a r
  obtain ⟨frame, ctl⟩ := ended_frame (s := s) (x := s.endedZone a r) subject
  have own := zone_ended_but_lost (s := s) (x := s.endedZone a r) subject bound
  have lost := lost_ended (s := s) (x := s.endedZone a r) subject bound
  rw [lost_endedZone] at lost
  have flags := attn_ended (s := s) (z := a.zone) (x := s.endedZone a r) (fs := s.endFindings a r) bound
  have mask := congrArg Attention.mask flags
  have latched := congrArg Attention.latched flags
  refine ⟨_, s.recordFor a.zone (r.night + 1), congrArg Host.Outcome.next (analysisEnd_eq held record bound), frame, ctl,
    fun y apart => zone_ended_other subject apart, findings_ended, mask, ?_, ?_, fun joins => ?_,
    fun none => ?_, fun overflow => ⟨?_, ?_⟩, fun room => ⟨?_, ?_⟩, fun plain => ?_, fun deferred => ?_,
    recordFor_off_grid a.zone, fun on => ⟨_, recordFor_on_grid a.zone on, rfl, rfl, rfl, rfl, rfl, rfl⟩⟩
  · rw [latched]
    exact latched_of_set endFlags_nightClosed
  · rw [latched]
    exact latched_of_clear endFlags_others
  · rw [latched]
    exact latched_of_set (endFlags_finding.trans (if_pos joins))
  · rw [latched]
    exact latched_of_clear (endFlags_finding.trans (if_neg fun joins => none.elim (· joins.1) joins.2))
  · rw [latched]
    exact latched_of_set (endFlags_queueFull.trans (if_pos (hfull.mp overflow)))
  · rw [lost, decide_eq_true (hfull.mp overflow), Bool.or_true]
  · rw [latched]
    exact latched_of_clear (endFlags_queueFull.trans (if_neg fun overflow => room (hfull.mpr overflow)))
  · rw [lost, decide_eq_false fun overflow => room (hfull.mpr overflow), Bool.or_false]
  · exact own.trans (endedZone_of_plain plain _)
  · exact own.trans (endedZone_of_deferred deferred (configured deferred) _)

end Sys2Proof.Proofs

/-! ## ENTER-SETUP, its leaving phase and the change to SETUP (R146, R159, R160, R162) -/

namespace Sys2Proof.Machine

open Sys2Proof

namespace Zone

/-- The history entry of a night that ENTER-SETUP ends (R109, R126). -/
def endedNight (night : Nat) : HistoryEntry :=
  { night := night, outcome := .incomplete, corrected := none, excess := none, mnf := none, uncorrected := false }

/-- A zone whose COLLECTING or DRAINING record is ended INCOMPLETE (R109, R160). -/
def nightEnded (x : Zone) : Zone :=
  match x.record with
  | some r =>
    if x.gathering then
      { x.addHistory (endedNight r.night) with lastClose := some { night := r.night, cls := .ended } }
    else x
  | none => x

variable {x : Zone}

theorem gathering_iff : x.gathering = true ↔
    ∃ r, x.record = some r ∧ (r.state = .collecting ∨ r.state = .draining) := by
  unfold gathering
  cases x.record <;> simp

theorem nightEnded_of_gathering {r : NightRecord} (record : x.record = some r)
    (gathering : r.state = .collecting ∨ r.state = .draining) : x.nightEnded =
      { x.addHistory (endedNight r.night) with lastClose := some { night := r.night, cls := .ended } } := by
  rw [nightEnded, record]
  exact if_pos (gathering_iff.mpr ⟨r, record, gathering⟩)

theorem nightEnded_of_not_gathering (idle : ∀ r, x.record = some r → r.state ≠ .collecting ∧ r.state ≠ .draining) :
    x.nightEnded = x := by
  unfold nightEnded
  split
  next r record =>
    refine if_neg fun gathers => ?_
    obtain ⟨q, hq, state⟩ := gathering_iff.mp gathers
    exact state.elim (idle q hq).1 (idle q hq).2
  next => rfl

/-- Ending a night changes the history and the last close record alone. -/
theorem nightEnded_frame (x : Zone) :
    x.nightEnded = { x with history := x.nightEnded.history, lastClose := x.nightEnded.lastClose } := by
  unfold nightEnded
  split
  · split <;> rfl
  · rfl

end Zone

namespace State

variable (s : State)

theorem endRecord_eq (z : ZoneId) : s.endRecord z = s.modZone z Zone.nightEnded := by
  have kept : s.modZone z (fun x => x) = s := s.putZone_self z
  unfold endRecord
  cases record : (s.zone z).record with
  | none =>
    refine kept.symm.trans (congrArg (s.putZone z) ?_)
    exact (Zone.nightEnded_of_not_gathering (by simp [record])).symm
  | some r =>
    dsimp only
    split
    next gathers =>
      obtain ⟨q, hq, state⟩ := Zone.gathering_iff.mp gathers
      cases record.symm.trans hq
      have ended := Zone.nightEnded_of_gathering record state
      refine Eq.trans ?_ (congrArg (s.putZone z) ended.symm)
      exact modZone_putZone s z _ fun x => { x with lastClose := some { night := r.night, cls := .ended } }
    next idle =>
      refine kept.symm.trans (congrArg (s.putZone z) (Zone.nightEnded_of_not_gathering fun q hq => ?_).symm)
      exact ⟨fun state => idle (Zone.gathering_iff.mpr ⟨q, hq, .inl state⟩),
        fun state => idle (Zone.gathering_iff.mpr ⟨q, hq, .inr state⟩)⟩

theorem foldl_endRecord_frame (zs : List ZoneId) :
    zs.foldl endRecord s = { s with zones := (zs.foldl endRecord s).zones } := by
  induction zs generalizing s with
  | nil => rfl
  | cons z zs ih =>
    have step := endRecord_eq s z
    rw [List.foldl_cons, ih, step]
    rfl

/-- Each zone's night is ended once. -/
theorem zone_foldl_endRecord {zs : List ZoneId} (nodup : zs.Nodup) (z : ZoneId) :
    (zs.foldl endRecord s).zone z = if z ∈ zs then (s.zone z).nightEnded else s.zone z := by
  induction zs generalizing s with
  | nil => simp
  | cons y ys ih =>
    obtain ⟨fresh, nodup⟩ := List.nodup_cons.mp nodup
    rw [List.foldl_cons, ih _ nodup, endRecord_eq, zone_modZone]
    by_cases same : z = y
    · subst same
      simp [fresh]
    · simp [same]

/-- Every night that gathers is ended (R160). -/
def nightsEnded : State := (List.finRange 48).foldl endRecord s

theorem nightsEnded_frame : s.nightsEnded = { s with zones := s.nightsEnded.zones } := foldl_endRecord_frame s _

theorem zone_nightsEnded (z : ZoneId) : s.nightsEnded.zone z = (s.zone z).nightEnded :=
  (zone_foldl_endRecord s (List.nodup_finRange 48) z).trans (if_pos (List.mem_finRange z))

theorem toSetup_frame : s.toSetup =
    { s with zones := s.toSetup.zones, channels := s.toSetup.channels, checker := s.checker.abandon
             analyser := { s.analyser with raced := [] }, ctl := { s.ctl with mode := .setup, leaving := none } } := by
  obtain ⟨zones, calmed⟩ : ∃ zones, (s.mapZones fun _ z => { z.calm with record := none }) = { s with zones := zones } :=
    ⟨_, rfl⟩
  obtain ⟨channels, emptied⟩ : ∃ channels, ({ s with zones := zones } : State).emptyLists =
    { s with zones := zones, channels := channels } := ⟨_, rfl⟩
  rw [toSetup, calmed, emptied]
  rfl

theorem zone_toSetup (z : ZoneId) : s.toSetup.zone z = { (s.zone z).calm with record := none } := by
  simp only [toSetup, emptyLists, zone_modCtl, zone_modAnalyser, zone_modChecker, zone_mapChannels, zone_mapZones]

theorem channel_toSetup (x : ChanId) : s.toSetup.channel x = { s.channel x with list := [] } := by
  simp only [toSetup, emptyLists, channel_modCtl, channel_modAnalyser, channel_modChecker, channel_mapChannels,
    channel_mapZones]

/-- The change to SETUP from a leaving phase: every night that gathers is ended first (R160). -/
theorem leave_eq (l : Leaving) : s.leave l = s.nightsEnded.toSetup.answer .ok
    [BitVec.ofNat 8 l.applied, BitVec.ofNat 8 l.analysed.length, BitVec.ofNat 8 s.gatheringCount] := rfl

theorem left_frame : s.nightsEnded.toSetup =
    { s with zones := s.nightsEnded.toSetup.zones, channels := s.nightsEnded.toSetup.channels
             checker := s.checker.abandon, analyser := { s.analyser with raced := [] }
             ctl := { s.ctl with mode := .setup, leaving := none } } := by
  have before := s.nightsEnded_frame
  have after := s.nightsEnded.toSetup_frame
  generalize s.nightsEnded = u at before after ⊢
  generalize u.toSetup = t at after ⊢
  rw [after, before]

theorem zone_left (z : ZoneId) : s.nightsEnded.toSetup.zone z = { (s.zone z).nightEnded.calm with record := none } := by
  rw [zone_toSetup, zone_nightsEnded]

theorem channel_left (x : ChanId) : s.nightsEnded.toSetup.channel x = { s.channel x with list := [] } := by
  have before := s.nightsEnded_frame
  rw [channel_toSetup]
  generalize s.nightsEnded = u at before ⊢
  rw [before]
  rfl

theorem leavingDone_iff : s.leavingDone = true ↔
    s.intake.hand = .idle ∧ s.stage.commitPending = false ∧ s.closingSet = [] ∧ s.analyser.analysing = none := by
  simp [leavingDone, and_assoc]

end State

end Sys2Proof.Machine

namespace Sys2Proof.Proofs

open Sys2Proof Machine Safety State

/-- The mode controller with a leaving phase that has counted n bindings and no zone (R159). -/
def leavingWith (c : ModeControl) (n : Nat) : ModeControl := { c with leaving := some { applied := n, analysed := [] } }

/-- The link with the owner at work on frame f. -/
def workingLink (s : State) (f : Frame) : Link := { s.link with hand := some { frame := f, phase := .working } }

section

variable {s : State} {f : Frame}

/-- The leaving phase of the request in hand begins (R159). -/
theorem beginLeaving_inHand : (s.inHand f).beginLeaving =
    if s.intake.hand = .idle then (working (s.modCtl fun c => leavingWith c 0) f).dueCommit
    else working (s.modCtl fun c => leavingWith c 0) f := rfl

theorem beginLeaving_without_commit (waits : s.intake.hand ≠ .idle ∨ s.stage.commitPending = false) :
    (s.inHand f).beginLeaving = working { s with ctl := leavingWith s.ctl 0 } f := by
  rw [beginLeaving_inHand]
  by_cases idle : s.intake.hand = .idle
  · have none_pending := waits.resolve_left (· idle)
    exact (if_pos idle).trans (dueCommit_of_not_due fun due => Bool.eq_false_iff.mp none_pending due.1)
  · exact if_neg idle

/-- With the intake idle a pending commit is applied at once, and counted (R159). -/
theorem beginLeaving_with_commit (idle : s.intake.hand = .idle) (pending : s.stage.commitPending = true) :
    (s.inHand f).beginLeaving = working (s.applyCommit.modCtl fun _ => leavingWith s.ctl s.stage.bindings.length) f := by
  have due : CommitDue (Laws.withLink (workingLink s f) (s.modCtl fun _ => leavingWith s.ctl 0)) :=
    ⟨pending, .inr (Option.some_ne_none _)⟩
  have sameLink : s.applyCommit.link = s.link := by rw [Laws.applyCommit_onlyCommit s]
  calc (s.inHand f).beginLeaving
      = (Laws.withLink (workingLink s f) (s.modCtl fun _ => leavingWith s.ctl 0)).dueCommit :=
          beginLeaving_inHand.trans (if_pos idle)
    _ = (Laws.withLink (workingLink s f) (s.modCtl fun _ => leavingWith s.ctl 0)).applyCommit.modCtl fun _ =>
          leavingWith s.ctl s.stage.bindings.length := dueCommit_of_due due
    _ = (Laws.withLink (workingLink s f) (s.applyCommit.modCtl fun _ => leavingWith s.ctl 0)).modCtl fun _ =>
          leavingWith s.ctl s.stage.bindings.length := by rw [applyCommit_link, applyCommit_modCtl]
    _ = working (s.applyCommit.modCtl fun _ => leavingWith s.ctl s.stage.bindings.length) f := by
          generalize s.applyCommit = t at sameLink ⊢
          unfold working
          rw [link_modCtl, sameLink]
          rfl

end

/-- Settles O51: ENTER-SETUP by the mode and the pending commit, the end of the leaving phase by whether its work is done. -/
theorem enterSetupEndsTheRun : Obligations.EnterSetupEndsTheRun := by
  refine ⟨fun ft s f hf free => ?_, fun s l h leaving => ?_, fun s staying => ?_⟩
  · have taken := exec_of_free State.enterSetup rfl hf free
    refine ⟨fun mode => exec_refuses taken free.1 ?_, fun mode => ?_, fun mode waits => ?_, fun mode idle pending => ?_⟩
    · rw [State.enterSetup, show (s.inHand f).mode = .setup from mode]
    · have ends : (s.inHand f).enterSetup = (s.toSetup.inHand f).answer .ok [0, 0, 0] := by
        rw [State.enterSetup, show (s.inHand f).mode = .starting from mode]
        rfl
      have pin : s.toSetup.link.resetLow = false := by rw [toSetup_frame]; exact free.1
      exact ⟨_, exec_answers taken pin ends, s.toSetup_frame, s.channel_toSetup, s.zone_toSetup⟩
    · rw [State.enterSetup, show (s.inHand f).mode = .run from mode] at taken
      exact taken.trans (congrArg _ (beginLeaving_without_commit waits))
    · rw [State.enterSetup, show (s.inHand f).mode = .run from mode] at taken
      have only := Laws.applyCommit_onlyCommit s
      refine ⟨_, taken.trans (congrArg _ (beginLeaving_with_commit idle pending)), ?_, meters_modCtl .., zones_modCtl ..,
        (stage_modCtl ..).trans (Laws.applyCommit_stage s), ctl_modCtl ..⟩
      generalize s.applyCommit = t at only ⊢
      rw [only]
      rfl
  · have ends : exec .leavingPhaseEnd s = .next (if s.leavingDone then s.leave l else s) := by
      refine congrArg Host.Outcome.next ?_
      rw [leaving]
    refine ⟨fun busy => ends.trans (congrArg _ (if_neg fun done => ?_)), fun idle settled empty free hand pin => ?_⟩
    · obtain ⟨idle, settled, empty, free⟩ := s.leavingDone_iff.mp done
      rcases busy with busy | busy | busy | busy
      · exact busy idle
      · rw [settled] at busy
        cases busy
      · exact busy empty
      · exact busy free
    · rw [if_pos (s.leavingDone_iff.mpr ⟨idle, settled, empty, free⟩), leave_eq] at ends
      have link : s.nightsEnded.toSetup.link = s.link := by rw [left_frame]
      rw [answer_hand (h := h) .ok _ (by rw [link, hand]) (by rw [link, pin])] at ends
      refine ⟨s.nightsEnded.toSetup, ends, s.left_frame, s.channel_left, fun z => ?_,
        fun z r entry record gathering hentry => ?_, fun z rests => ?_⟩
      · rw [zone_left, Zone.nightEnded_frame]
        rfl
      · rw [zone_left, Zone.nightEnded_of_gathering record gathering, hentry]
        exact ⟨rfl, rfl⟩
      · rw [zone_left, Zone.nightEnded_of_not_gathering rests]
        exact ⟨rfl, rfl⟩
  · refine congrArg Host.Outcome.next ?_
    rw [staying]

end Sys2Proof.Proofs

/-! ## The verdict arithmetic (07) -/

namespace Sys2Proof.Machine

open Sys2Proof Safety

/-! ### The verdict (R112, R113) -/

theorem threshold_eq (x : ZoneSettings) (spread : Int) :
    threshold x spread = max x.tfloor.toInt ((x.multiplier.toNat : Int) * spread / 4) := by
  rw [threshold, Int.fdiv_eq_ediv_of_nonneg _ (by decide)]

namespace Zone

variable {z : Zone} {x : ZoneSettings} {c : Int}

theorem verdict_of_settling (settling : z.kept = .settling) : z.verdict x c = .settling := if_pos settling

section

variable (judged : z.kept ≠ .settling)
include judged

theorem verdict_of_burst (burst : x.tburst.toInt ≤ c - z.baseline) : z.verdict x c = .burst :=
  (if_neg judged).trans (if_pos burst)

variable (low : c - z.baseline < x.tburst.toInt)
include low

theorem verdict_of_exceed (exceeds : threshold x z.spread < c - z.baseline) : z.verdict x c = .exceed :=
  (if_neg judged).trans ((if_neg low.not_ge).trans (if_pos exceeds))

theorem verdict_of_normal (normal : c - z.baseline ≤ threshold x z.spread) : z.verdict x c = .normal :=
  (if_neg judged).trans ((if_neg low.not_ge).trans (if_neg normal.not_gt))

end

/-- A zone that is not SETTLING has one of the three verdicts that make a verdict night. -/
theorem verdict_cases (judged : z.kept ≠ .settling) :
    z.verdict x c = .normal ∨ z.verdict x c = .exceed ∨ z.verdict x c = .burst := by
  rcases le_or_gt x.tburst.toInt (c - z.baseline) with burst | low
  · exact .inr (.inr (verdict_of_burst judged burst))
  · rcases lt_or_ge (threshold x z.spread) (c - z.baseline) with exceeds | normal
    · exact .inr (.inl (verdict_of_exceed judged low exceeds))
    · exact .inl (verdict_of_normal judged low normal)

end Zone

/-! ### Steps of a mean, which never pass their target (R121) -/

/-- A floored part of a difference lies between 0 and the difference. -/
theorem ediv_mem_uIcc (d : Int) {n : Int} (positive : 0 < n) : d / n ∈ Set.uIcc 0 d := by
  rw [Set.mem_uIcc]
  rcases le_total 0 d with up | down
  · exact .inl ⟨Int.ediv_nonneg up positive.le, Int.ediv_le_self n up⟩
  · refine .inr ⟨(Int.le_ediv_iff_mul_le positive).mpr ?_, Int.ediv_nonpos_of_nonpos_of_neg down positive⟩
    simpa using mul_le_mul_of_nonpos_left (Int.add_one_le_of_lt positive) down

theorem fdiv_mem_uIcc (d : Int) {n : Int} (positive : 0 < n) : d.fdiv n ∈ Set.uIcc 0 d := by
  rw [Int.fdiv_eq_ediv_of_nonneg d positive.le]
  exact ediv_mem_uIcc d positive

/-- A truncated part of a difference lies between 0 and the difference. -/
theorem tdiv_mem_uIcc (d : Int) {n : Int} (positive : 0 < n) : d.tdiv n ∈ Set.uIcc 0 d := by
  have up : ∀ e : Int, 0 ≤ e → 0 ≤ e.tdiv n ∧ e.tdiv n ≤ e := fun e he =>
    ⟨Int.tdiv_nonneg he positive.le, Int.tdiv_le_self n he⟩
  rw [Set.mem_uIcc]
  rcases le_total 0 d with rises | falls
  · exact .inl (up d rises)
  · have mirrored := up (-d) (by omega)
    rw [Int.neg_tdiv] at mirrored
    omega

/-- A flow moved towards a flow and not past it is a flow (R121). -/
theorem flowOk_add {old target step : Int} (hold : FlowOk old) (htarget : FlowOk target)
    (towards : step ∈ Set.uIcc 0 (target - old)) : FlowOk (old + step) := by
  rw [Set.mem_uIcc] at towards
  unfold FlowOk at *
  omega

theorem flowOk_difference {c b : Int} (hc : FlowOk c) (hb : FlowOk b) : FlowOk (difference c b) := by
  unfold FlowOk difference at *
  omega

/-- The saturation of R121 keeps what is in the range. -/
theorem clampFlow_of_flowOk {v : Int} (h : FlowOk v) : clampFlow v = v := by
  unfold FlowOk at h
  unfold clampFlow Config.flowMax
  omega

/-- Moved towards a flow and not past it, a flow needs no saturation (R121). -/
theorem clampFlow_add {old target step : Int} (hold : FlowOk old) (htarget : FlowOk target)
    (towards : step ∈ Set.uIcc 0 (target - old)) : clampFlow (old + step) = old + step :=
  clampFlow_of_flowOk (flowOk_add hold htarget towards)

/-! ### The two updates (R117 to R120) -/

namespace Zone

variable {z : Zone} {x : ZoneSettings} {c : Int}

/-- The first settling night: the old values are discarded (R118). -/
theorem settlingUpdate_first (first : z.settling = 0) (hc : FlowOk c) : z.settlingUpdate x c =
    { z with settling := 1, baseline := c, spread := 0, kept := if x.nSettle.toNat ≤ 1 then .clear else z.kept } := by
  have count : z.settling + 1 = 1 := by omega
  simp only [settlingUpdate, count, if_true, clampFlow_of_flowOk hc, clampFlow_of_flowOk flowOk_zero]

variable (hb : FlowOk z.baseline) (hs : FlowOk z.spread) (hc : FlowOk c)
include hb hs hc

/-- A later settling night: the running means truncate, and stay in the range (R118, R121). -/
theorem settlingUpdate_later {n : Nat} (count : n = z.settling + 1) (later : 2 ≤ n) : z.settlingUpdate x c =
    { z with
      settling := n
      baseline := z.baseline + (c - z.baseline).tdiv n
      spread := z.spread + (difference c z.baseline - z.spread).tdiv n
      kept := if x.nSettle.toNat ≤ n then .clear else z.kept } := by
  have positive : (0 : Int) < n := by omega
  have mean := clampFlow_add hb hc (tdiv_mem_uIcc _ positive)
  have spread := clampFlow_add hs (flowOk_difference hc hb) (tdiv_mem_uIcc _ positive)
  simp only [settlingUpdate, ← count, if_neg (show n ≠ 1 by omega), mean, spread]

/-- The shifted means floor, and stay in the range (R120, R121). -/
theorem shiftedUpdate_eq : z.shiftedUpdate x c =
    { z with
      baseline := z.baseline + (c - z.baseline).fdiv (2 ^ x.shift.toNat)
      spread := z.spread + (difference c z.baseline - z.spread).fdiv (2 ^ x.shift.toNat) } := by
  have positive : (0 : Int) < 2 ^ x.shift.toNat := by positivity
  have mean := clampFlow_add hb hc (fdiv_mem_uIcc _ positive)
  have spread := clampFlow_add hs (flowOk_difference hc hb) (fdiv_mem_uIcc _ positive)
  simp only [shiftedUpdate, Nat.cast_pow, Nat.cast_ofNat, mean, spread]

end Zone

end Sys2Proof.Machine

namespace Sys2Proof.Proofs

open Sys2Proof Machine Safety

/-- Settles O41: by the rows of R113, each with its own lemma. -/
theorem verdictByExcess : Obligations.VerdictByExcess := by
  rintro z x c _ t rfl ht
  rw [← threshold_eq] at ht
  subst ht
  exact ⟨Zone.verdict_of_settling, Zone.verdict_of_burst, Zone.verdict_of_exceed, Zone.verdict_of_normal⟩

/-- Settles O42: no step of the means passes its target, so that none is saturated. -/
theorem baselineUpdatesRound : Obligations.BaselineUpdatesRound := by
  rintro z x c _ n hb hs hc rfl count
  exact ⟨fun first => Zone.settlingUpdate_first (by omega) hc, Zone.settlingUpdate_later hb hs hc count,
    Zone.shiftedUpdate_eq hb hs hc⟩

end Sys2Proof.Proofs

/-! ## BASELINE-PUT (R123) -/

namespace Sys2Proof.Proofs

open Sys2Proof Machine Safety

section

variable {b sp : W32} {n : Byte}

/-- BASELINE-PUT's test 4 names the first of its three fields that is out of range (R123). -/
theorem baselineFault_eq (b sp : W32) (n : Byte) : baselineFault b sp n =
    if b.toNat ≤ 2147483647 then if sp.toNat ≤ 2147483647 then if n.toNat ≤ 30 then none else some 9 else some 5
    else some 1 := by
  simp only [baselineFault, firstFailing_cons, decide_eq_true_eq]
  rfl

/-- The reply spells what the request wrote. -/
theorem baselineBytes_putBaseline (z : Zone) : (z.putBaseline b sp n).baselineBytes =
    [BitVec.ofNat 8 (z.putBaseline b sp n).condition.code] ++ be32 b ++ be32 sp ++ [n] := by
  simp only [Zone.baselineBytes, enc8, encS32, Zone.putBaseline, BitVec.ofInt_natCast, BitVec.ofNat_toNat,
    BitVec.setWidth_eq]

variable {s : State} {f : Frame} {zone : Byte} {z : ZoneId}

/-- BASELINE-PUT in SETUP for a zone number in range: the tests on the condition, then test 4 (R123). -/
theorem baselinePut_inHand (setup : s.mode = .setup) (hz : zone.toNat = z.val) : (s.inHand f).baselinePut zone b sp n =
    if (s.zone z).condition = .unconfigured then (s.inHand f).refuse .noSuch 0
    else if (s.zone z).condition = .fault ∨ (s.zone z).condition = .confirmed then (s.inHand f).refuse .wrongState 0
    else match baselineFault b sp n with
      | some offset => (s.inHand f).refuse .range offset
      | none => ((s.putZone z ((s.zone z).putBaseline b sp n)).inHand f).answer .ok
          ((s.zone z).putBaseline b sp n).baselineBytes := by
  simp only [State.baselinePut, show (s.inHand f).mode = .setup from setup, if_true, zoneOf_eq_some hz, Bool.or_eq_true,
    decide_eq_true_eq]
  rfl

end

/-- Settles O40: by the tests of R123 in order. -/
theorem baselinePutWritesBaseline : Obligations.BaselinePutWritesBaseline := by
  intro ft zone n b sp s f hf free
  have taken := exec_of_free (fun t => t.baselinePut zone b sp n) rfl hf free
  refine ⟨fun mode => exec_refuses taken free.1 (if_neg mode), fun setup far => exec_refuses taken free.1 ?_,
    fun z old new setup hz hold => ?_⟩
  · rw [State.baselinePut, if_pos (show (s.inHand f).mode = .setup from setup), zoneOf_eq_none far]
  · subst hold
    have put := baselinePut_inHand (f := f) (b := b) (sp := sp) (n := n) setup hz
    refine ⟨fun unset => exec_refuses taken free.1 (put.trans (if_pos unset)),
      fun closed => exec_refuses taken free.1 ?_, fun configured sound unlatched => ?_⟩
    · have configured : (s.zone z).condition ≠ .unconfigured := by rcases closed with h | h <;> simp [h]
      exact put.trans ((if_neg configured).trans (if_pos closed))
    · rw [if_neg configured, if_neg (not_or.mpr ⟨sound, unlatched⟩), baselineFault_eq] at put
      refine ⟨fun high => ?_, fun hb high => ?_, fun hb hsp high => ?_, fun hb hsp hn hnew => ?_⟩
      · rw [if_neg high.not_ge] at put
        exact exec_refuses taken free.1 put
      · rw [if_pos hb, if_neg high.not_ge] at put
        exact exec_refuses taken free.1 put
      · rw [if_pos hb, if_pos hsp, if_neg high.not_ge] at put
        exact exec_refuses taken free.1 put
      · subst hnew
        rw [if_pos hb, if_pos hsp, if_pos hn] at put
        rw [← Zone.putBaseline, ← baselineBytes_putBaseline]
        exact exec_answers taken free.1 put

end Sys2Proof.Proofs

/-! ## A night's outcome (R114, R126 to R134) -/

namespace Sys2Proof.Machine

open Sys2Proof

/-- `add` puts an entry of the night into a zone's history (R126). -/
def AddsNight (night : Nat)
    (add : Zone → NightOutcome → Option Int → Option Int → Option Int → Bool → List HistoryEntry) : Prop :=
  ∀ (y : Zone) (h : HistoryEntry), h.night = night →
    add y h.outcome h.corrected h.excess h.mnf h.uncorrected =
      (h :: y.history.filter fun older => decide (older.night < night)).take 8

/-- The list goes by the entry and the zone's history alone. -/
theorem AddsNight.congr {night : Nat}
    {add : Zone → NightOutcome → Option Int → Option Int → Option Int → Bool → List HistoryEntry}
    (adds : AddsNight night add) {y z : Zone} (same : y.history = z.history) (o : NightOutcome) (c e mnf : Option Int)
    (mark : Bool) : add y o c e mnf mark = add z o c e mnf mark := by
  have listed := adds y ⟨night, o, c, e, mnf, mark⟩ rfl
  rw [same] at listed
  exact listed.trans (adds z ⟨night, o, c, e, mnf, mark⟩ rfl).symm

/-- High nights among the newest m verdict nights, by the outcomes as the manual names them (R126, R129). -/
theorem highNights_eq (history : List HistoryEntry) (m : Nat) : highNights history m =
    (((history.filter fun h => h.outcome = .normal ∨ h.outcome = .exceed ∨ h.outcome = .burst).take m).filter fun h =>
      h.outcome = .exceed ∨ h.outcome = .burst).length := by
  have verdict : ∀ o : NightOutcome, o.isVerdict = decide (o = .normal ∨ o = .exceed ∨ o = .burst) :=
    fun o => by cases o <;> rfl
  have high : ∀ o : NightOutcome, o.isHigh = decide (o = .exceed ∨ o = .burst) := fun o => by cases o <;> rfl
  simp only [highNights, List.countP_eq_length_filter, verdict, high]

/-- The model's own histories are such a list (R126). -/
theorem addsNight_addHistory (night : Nat) :
    AddsNight night fun y o c e mnf mark => (y.addHistory ⟨night, o, c, e, mnf, mark⟩).history := by
  rintro y h rfl
  rfl

namespace Zone

section

variable {night : Nat} {add : Zone → NightOutcome → Option Int → Option Int → Option Int → Bool → List HistoryEntry}

theorem addHistory_of_adds (adds : AddsNight night add) (z : Zone) (o : NightOutcome) (c e mnf : Option Int)
    (mark : Bool) : z.addHistory ⟨night, o, c, e, mnf, mark⟩ = { z with history := add z o c e mnf mark } :=
  congrArg (fun history => { z with history := history }) (adds z ⟨night, o, c, e, mnf, mark⟩ rfl).symm

theorem workPlain_of_adds (adds : AddsNight night add) (z : Zone) (o : NightOutcome) (mnf : Option Int) :
    z.workPlain night o mnf = { z with history := add z o none none mnf false } :=
  addHistory_of_adds adds z o none none mnf false

end

/-! ### What a verdict does to the condition (R130 to R133) -/

section

variable {z : Zone} {x : ZoneSettings}

/-- A NORMAL verdict moves no zone that is CLEAR or CONFIRMED, and none whose run is short (R132). -/
theorem onNormal_stays (h : z.kept = .clear ∨ z.kept = .confirmed ∨ z.run < x.rClear.toNat) :
    z.onNormal x = (z, none) := by
  unfold onNormal
  split
  iterate 3
    next kept =>
      rw [kept] at h
      exact if_neg (by simpa using h)
  all_goals rfl

/-- A run of NORMAL nights clears a zone that is WATCH, SUSPECT or BURST (R132). -/
theorem onNormal_clears (h : z.kept = .watch ∨ z.kept = .suspect ∨ z.kept = .burst) (long : x.rClear.toNat ≤ z.run) :
    z.onNormal x = ({ z with kept := .clear }, some .cleared) := by
  rcases h with kept | kept | kept <;> simp only [onNormal, kept, if_pos long]

/-- The K-of-M test fails (R129). -/
theorem persists_eq_false (few : highNights z.history x.mNights.toNat < x.kNights.toNat) : z.persists x = false :=
  decide_eq_false few.not_ge

theorem persists_eq_true (many : x.kNights.toNat ≤ highNights z.history x.mNights.toNat) : z.persists x = true :=
  decide_eq_true many

theorem onExceed_watches (clear : z.kept = .clear) (few : highNights z.history x.mNights.toNat < x.kNights.toNat) :
    z.onExceed x = ({ z with kept := .watch }, some .watch) := by
  simp only [onExceed, clear, persists_eq_false few]
  rfl

/-- An EXCEED verdict leaves a WATCH zone whose high nights are few, and zones SUSPECT and CONFIRMED (R130). -/
theorem onExceed_stays (h : (z.kept = .watch ∧ highNights z.history x.mNights.toNat < x.kNights.toNat) ∨
    z.kept = .suspect ∨ z.kept = .confirmed) : z.onExceed x = (z, none) := by
  rcases h with ⟨kept, few⟩ | kept | kept
  · simp only [onExceed, kept, persists_eq_false few]
    rfl
  · simp only [onExceed, kept]
  · simp only [onExceed, kept]

/-- An EXCEED verdict takes a BURST zone, and one with high nights enough, into suspicion (R130). -/
theorem onExceed_suspects (h : z.kept = .burst ∨
    ((z.kept = .clear ∨ z.kept = .watch) ∧ x.kNights.toNat ≤ highNights z.history x.mNights.toNat)) :
    z.onExceed x = z.enterSuspicion x := by
  rcases h with kept | ⟨kept | kept, many⟩
  · simp only [onExceed, kept]
  · simp only [onExceed, kept, persists_eq_true many, if_true]
  · simp only [onExceed, kept, persists_eq_true many, if_true]

/-- Suspicion short of the latch, or with no latch (R133). -/
theorem enterSuspicion_suspect (h : x.lLatch = 0 ∨ min 15 (z.episodes + 1) < x.lLatch.toNat) :
    z.enterSuspicion x = ({ z with episodes := min 15 (z.episodes + 1), kept := .suspect }, some .suspect) := by
  refine if_neg ?_
  rw [Bool.and_eq_true, bne_iff_ne, decide_eq_true_eq]
  rintro ⟨latch, reached⟩
  exact h.elim latch reached.not_gt

/-- Suspicion that reaches the latch (R133). -/
theorem enterSuspicion_confirmed (latch : x.lLatch ≠ 0) (reached : x.lLatch.toNat ≤ min 15 (z.episodes + 1)) :
    z.enterSuspicion x = ({ z with episodes := min 15 (z.episodes + 1), kept := .confirmed }, some .confirmed) := by
  refine if_pos ?_
  rw [Bool.and_eq_true, bne_iff_ne, decide_eq_true_eq]
  exact ⟨latch, reached⟩

theorem onBurst_bursts (h : z.kept = .clear ∨ z.kept = .watch ∨ z.kept = .suspect ∨ z.kept = .burst) :
    z.onBurst = ({ z with kept := .burst }, some .burst) := by
  rcases h with kept | kept | kept | kept <;> simp only [onBurst, kept]

theorem onBurst_confirmed (confirmed : z.kept = .confirmed) : z.onBurst = (z, some .burst) := by
  simp only [onBurst, confirmed]

end

/-! ### A JUDGED night (R114) -/

/-- Learning writes the baseline state, and at most the condition (R118 to R120). -/
theorem learn_frame (z : Zone) (x : ZoneSettings) (v : NightOutcome) (c : Int) : z.learn x v c =
    { z with baseline := (z.learn x v c).baseline, spread := (z.learn x v c).spread
             settling := (z.learn x v c).settling, kept := (z.learn x v c).kept } := by
  unfold learn
  split
  · rfl
  · split <;> rfl
  all_goals rfl

theorem history_learn (z : Zone) (x : ZoneSettings) (v : NightOutcome) (c : Int) :
    (z.learn x v c).history = z.history := by
  rw [learn_frame]

theorem run_learn (z : Zone) (x : ZoneSettings) (v : NightOutcome) (c : Int) : (z.learn x v c).run = z.run := by
  rw [learn_frame]

theorem episodes_learn (z : Zone) (x : ZoneSettings) (v : NightOutcome) (c : Int) :
    (z.learn x v c).episodes = z.episodes := by
  rw [learn_frame]

/-- The zone that step 4 moves: its baseline learnt, the night recorded, and run counted (R114, R127). -/
def judgedZone (z : Zone) (x : ZoneSettings) (night : Nat) (mnf c : Int) (mark : Bool) : Zone :=
  let learnt := z.learn x (z.verdict x c) c
  { learnt.addHistory ⟨night, z.verdict x c, some c, some (c - z.baseline), some mnf, mark⟩ with
    run := runAfter learnt.run (z.verdict x c) }

section

variable {z n y : Zone} {x : ZoneSettings} {zid : ZoneId} {night : Nat} {mnf c : Int} {mark : Bool}
  {add : Zone → NightOutcome → Option Int → Option Int → Option Int → Bool → List HistoryEntry}

/-- In SETTLING step 4 moves nothing, and the only finding is that of the end of settling (R119). -/
theorem workJudged_of_settling (settling : z.kept = .settling) : z.workJudged x zid night mnf c mark =
    ((z.settlingUpdate x c).addHistory ⟨night, .settling, some c, some (c - z.baseline), some mnf, mark⟩,
      if x.nSettle.toNat ≤ z.settling + 1 then [figureFinding .settled zid night c (c - z.baseline)] else []) := by
  have ends : (z.settlingUpdate x c).kept = .clear ↔ x.nSettle.toNat ≤ z.settling + 1 := by
    rw [settlingUpdate, settling]
    exact ⟨fun h => by_contra fun short => by simp [short] at h, fun h => if_pos h⟩
  simp only [workJudged, verdict_of_settling settling, learn, move, runAfter, ends, decide_true, Bool.true_and,
    decide_eq_true_eq, List.append_nil]

/-- The night that ends settling (R119). -/
theorem workJudged_ends_settling (adds : AddsNight night add) (settling : z.kept = .settling)
    (ends : x.nSettle.toNat ≤ z.settling + 1) : z.workJudged x zid night mnf c mark =
      ({ z.settlingUpdate x c with
          history := add z .settling (some c) (some (c - z.baseline)) (some mnf) mark, kept := .clear },
        [figureFinding .settled zid night c (c - z.baseline)]) := by
  rw [workJudged_of_settling settling, addHistory_of_adds adds, adds.congr (y := z.settlingUpdate x c) (z := z) rfl,
    if_pos ends]
  simp only [settlingUpdate, if_pos ends]

/-- A night that leaves the count below N_settle (R119). -/
theorem workJudged_goes_on_settling (adds : AddsNight night add) (settling : z.kept = .settling)
    (short : z.settling + 1 < x.nSettle.toNat) : z.workJudged x zid night mnf c mark =
      ({ z.settlingUpdate x c with
          history := add z .settling (some c) (some (c - z.baseline)) (some mnf) mark, kept := .settling }, []) := by
  rw [workJudged_of_settling settling, addHistory_of_adds adds, adds.congr (y := z.settlingUpdate x c) (z := z) rfl,
    if_neg short.not_ge]
  simp only [settlingUpdate, if_neg short.not_ge, settling]

/-- Any other JUDGED night is what step 4 makes of the recorded zone: its move, and at most one finding (R127). -/
theorem workJudged_of_move {made : Option FindingKind} (judged : z.kept ≠ .settling)
    (recorded : n = z.judgedZone x night mnf c mark) (moves : n.move x (z.verdict x c) = (y, made)) :
    z.workJudged x zid night mnf c mark =
      (y, (made.map fun k => figureFinding k zid night c (c - z.baseline)).toList) := by
  have unsettled : z.verdict x c ≠ .settling := by
    rcases verdict_cases (x := x) (c := c) judged with v | v | v <;> simp [v]
  have worked : z.workJudged x zid night mnf c mark =
      ((n.move x (z.verdict x c)).1,
        (if z.verdict x c = .settling && (z.learn x (z.verdict x c) c).kept = .clear then
          [figureFinding .settled zid night c (c - z.baseline)] else []) ++
        match (n.move x (z.verdict x c)).2 with
        | none => []
        | some k => [figureFinding k zid night c (c - z.baseline)]) := by
    rw [recorded]
    rfl
  rw [worked, moves, if_neg (by simp [unsettled])]
  cases made <;> rfl

/-- The conditions in which a verdict counts (R113). -/
theorem kept_cases (judged : z.kept ≠ .settling) (configured : z.kept ≠ .unconfigured) (sound : z.kept ≠ .fault) :
    z.kept = .clear ∨ z.kept = .watch ∨ z.kept = .suspect ∨ z.kept = .burst ∨ z.kept = .confirmed := by
  cases kept : z.kept <;> simp_all

/-- Outside SETTLING, FAULT and UNCONFIGURED a zone learns from a NORMAL night alone, and not when CONFIRMED (R116). -/
theorem learn_of_judged (judged : z.kept ≠ .settling) (configured : z.kept ≠ .unconfigured) (sound : z.kept ≠ .fault) :
    z.learn x (z.verdict x c) c =
      if z.verdict x c = .normal ∧ z.kept ≠ .confirmed then z.shiftedUpdate x c else z := by
  rcases verdict_cases (x := x) (c := c) judged with v | v | v
  · rw [v]
    cases kept : z.kept <;> simp_all [learn]
  · simp only [v, learn]
    rfl
  · simp only [v, learn]
    rfl

/-- run counts NORMAL nights up to 7, and the other verdict nights end it (R128). -/
theorem runAfter_verdict (judged : z.kept ≠ .settling) (run : Nat) :
    runAfter run (z.verdict x c) = if z.verdict x c = .normal then min 7 (run + 1) else 0 := by
  rcases verdict_cases (x := x) (c := c) judged with v | v | v <;> rw [v] <;> rfl

/-- The recorded zone, field by field; its condition is still the one the night found (R116, R126, R128). -/
theorem judgedZone_eq (adds : AddsNight night add) (judged : z.kept ≠ .settling) (configured : z.kept ≠ .unconfigured)
    (sound : z.kept ≠ .fault) : z.judgedZone x night mnf c mark =
      { (if z.verdict x c = .normal ∧ z.kept ≠ .confirmed then z.shiftedUpdate x c else z) with
        history := add z (z.verdict x c) (some c) (some (c - z.baseline)) (some mnf) mark
        run := if z.verdict x c = .normal then min 7 (z.run + 1) else 0 } := by
  rw [judgedZone, addHistory_of_adds adds, adds.congr (history_learn z x _ c), run_learn, runAfter_verdict judged,
    learn_of_judged judged configured sound]

theorem kept_judgedZone (judged : z.kept ≠ .settling) (configured : z.kept ≠ .unconfigured) (sound : z.kept ≠ .fault) :
    (z.judgedZone x night mnf c mark).kept = z.kept := by
  show (z.learn x (z.verdict x c) c).kept = z.kept
  rw [learn_of_judged judged configured sound]
  split <;> rfl

theorem episodes_judgedZone : (z.judgedZone x night mnf c mark).episodes = z.episodes := z.episodes_learn x _ c

end

end Zone

end Sys2Proof.Machine

namespace Sys2Proof.Proofs

open Sys2Proof Machine Safety Zone

/-- Settles O43: SETTLING by whether it ends, then for each verdict the moves of step 4. -/
theorem judgedNightMovesZone : Obligations.JudgedNightMovesZone := by
  intro z x zid night add (adds : AddsNight night add)
  refine ⟨⟨?_, ?_, fun _ => ?_, ?_, fun _ mnf _ => ?_, fun _ _ _ _ _ _ => rfl⟩, ?_⟩
  iterate 5 rw [Zone.work, workPlain_of_adds adds]
  rintro n mnf c _ mark _ high finding rfl rfl hfinding
  refine ⟨fun settling => ⟨fun ends => ?_, fun short => workJudged_goes_on_settling adds settling short⟩,
    fun judged configured sound hn hhigh => ?_⟩
  · rw [hfinding]
    exact workJudged_ends_settling adds settling ends
  · have run : n.run = if z.verdict x c = .normal then min 7 (z.run + 1) else 0 := congrArg Zone.run hn
    rw [← judgedZone_eq adds judged configured sound] at hn
    have kept : n.kept = z.kept := hn ▸ kept_judgedZone judged configured sound
    have episodes : n.episodes = z.episodes := hn ▸ episodes_judgedZone
    rw [← highNights_eq] at hhigh
    have moves : ∀ {y k}, n.move x (z.verdict x c) = (y, some k) →
        z.workJudged x zid night mnf c mark = (y, finding k) :=
      fun {y k} h => (hfinding k).symm ▸ workJudged_of_move judged hn h
    have stays : n.move x (z.verdict x c) = (n, none) → z.workJudged x zid night mnf c mark = (n, []) :=
      workJudged_of_move judged hn
    have conditions := kept_cases judged configured sound
    rw [← kept] at conditions ⊢
    rw [← episodes]
    subst hhigh
    refine ⟨fun v => ?_, fun v => ?_, fun v => ?_⟩
    all_goals rw [v] at moves stays
    · rw [v, if_pos rfl] at run
      exact ⟨fun h small => stays (onNormal_stays (h.imp_right (Or.imp_right fun _ => by omega))),
        fun notClear notConfirmed small long => moves (onNormal_clears (by tauto) (by omega))⟩
    · refine ⟨fun clear few => moves (onExceed_watches clear few),
        fun watch few => stays (onExceed_stays (.inl ⟨watch, few⟩)), fun h => stays (onExceed_stays (.inr h)),
        fun h => ⟨fun below => ?_, fun latch reached => ?_⟩⟩
      · exact moves ((onExceed_suspects h).trans (enterSuspicion_suspect below))
      · exact moves ((onExceed_suspects h).trans (enterSuspicion_confirmed latch reached))
    · exact ⟨fun unconfirmed => moves (onBurst_bursts (by tauto)), fun confirmed => moves (onBurst_confirmed confirmed)⟩

end Sys2Proof.Proofs

/-! ## The findings queue: a finding offered, and FINDINGS-TAKE (R144, R145) -/

namespace Sys2Proof.Machine.State

open Sys2Proof

variable (s : State) (x : Finding)

/-- The first finding of the queue latches FINDING (R144, R169). -/
theorem offer_of_empty (empty : s.findings = []) :
    s.offer x = { s with findings := [x], attn := { s.attn with latched := s.attn.latched ||| flagFinding } } := by
  have room : s.findings.length < findingsMax := by rw [empty]; decide
  refine (if_pos room).trans ((if_pos empty).trans ?_)
  rw [empty]
  rfl

/-- A later finding joins as the newest and latches nothing (R144). -/
theorem offer_of_nonempty (nonempty : s.findings ≠ []) (room : s.findings.length < 32) :
    s.offer x = { s with findings := s.findings ++ [x] } :=
  (if_pos room).trans (if_neg nonempty)

/-- A full queue loses the finding (R144, R169). -/
theorem offer_of_full (full : 32 ≤ s.findings.length) : s.offer x = (s.markLost x.subject).latch flagQueueFull :=
  if_neg (Nat.not_lt.mpr full)

end Sys2Proof.Machine.State

namespace Sys2Proof.Proofs

open Sys2Proof Machine Safety

/-- Settles O45: by whether the queue is empty, has room, or is full. -/
theorem offeredFindingJoinsOrIsLost : Obligations.OfferedFindingJoinsOrIsLost := by
  refine fun s x => ⟨s.offer_of_empty x, s.offer_of_nonempty x, fun z full subject => ?_, fun m full subject => ?_⟩
  · rw [s.offer_of_full x full, subject]
    rfl
  · rw [s.offer_of_full x full, subject]
    rfl

/-- The oldest min(n, length) members of a list, and the others, are its first n and what is left of them. -/
theorem take_drop_of_append {α : Type} {whole taken left : List α} {n : Nat} (split : whole = taken ++ left)
    (count : taken.length = min n whole.length) : whole.take n = taken ∧ whole.drop n = left := by
  have first : whole.take n = taken := by
    rw [List.take_eq_take_min, ← count, split, List.take_left]
  have both : taken ++ whole.drop n = taken ++ left := by
    rw [← split]
    exact first ▸ List.take_append_drop n whole
  exact ⟨first, List.append_cancel_left both⟩

/-- Settles O44: by whether n is 1 to 6. -/
theorem findingsTakeReturnsOldest : Obligations.FindingsTakeReturnsOldest := by
  intro ft n s f taken left hf free
  have answers := exec_of_free (fun t => t.findingsTake n) rfl hf free
  refine ⟨fun outside => exec_refuses answers free.1 (if_neg ?_), fun low high split count => ?_⟩
  · rcases outside with rfl | far
    · decide
    · simp [byteIn, far]
  · have inside : byteIn 1 6 n = true := by simp [byteIn, low, high]
    obtain ⟨first, rest⟩ := take_drop_of_append split count
    refine exec_answers (t := s.setFindings left) answers free.1 ((if_pos inside).trans ?_)
    rw [show (s.inHand f).findings = s.findings from rfl, first, rest]
    rfl

end Sys2Proof.Proofs

/-! ## HOLD-ZONE (R138) -/

namespace Sys2Proof.Machine

open Sys2Proof Proofs

/-- A configured zone whose hold request flag is written, `line` being the level of its hold line: when that begins the hold,
a COLLECTING record gets its held mark (R93, R137). -/
def Zone.holdFlagged (x : Zone) (line on : Bool) : Zone :=
  { x with
    holdFlag := on
    record := if on && !(x.holdFlag || line) then
        x.record.map fun r => if r.state = .collecting then { r with held := true } else r
      else x.record }

/-- A hold that does not begin leaves the record as it is. -/
theorem Zone.holdFlagged_of_not_begins {x : Zone} {line on : Bool}
    (still : on = false ∨ x.holdFlag = true ∨ line = true ∨ x.record = none) :
    x.holdFlagged line on = { x with holdFlag := on } := by
  unfold Zone.holdFlagged
  rcases still with h | h | h | h <;> simp [h]

/-- A hold that begins reaches the record. -/
theorem Zone.holdFlagged_of_begins {x : Zone} {r : NightRecord} (clear : x.holdFlag = false) (record : x.record = some r) :
    x.holdFlagged false true =
      { x with holdFlag := true, record := some (if r.state = .collecting then { r with held := true } else r) } := by
  simp [Zone.holdFlagged, clear, record]

namespace State

variable {s : State} {z : ZoneId} {line : Bool}

theorem holdActive_of_configured (configured : (s.zone z).condition ≠ .unconfigured)
    (hline : line = s.lineAsserted (chanOf (s.zone z).entry.settings.holdLine)) :
    s.holdActive z = ((s.zone z).holdFlag || line) := by
  simp [holdActive, configured, hline]

theorem holdActive_putZone {x : Zone} (configured : x.condition ≠ .unconfigured)
    (hline : line = s.lineAsserted (chanOf x.entry.settings.holdLine)) :
    (s.putZone z x).holdActive z = (x.holdFlag || line) := by
  have written : (s.putZone z x).zone z = x := (zone_putZone s z z x).trans (if_pos rfl)
  rw [holdActive_of_configured (line := line) (by rwa [written]) (by rw [written]; exact hline), written]

section

variable (configured : (s.zone z).condition ≠ .unconfigured)
  (hline : line = s.lineAsserted (chanOf (s.zone z).entry.settings.holdLine))
include configured hline

/-- Writing the hold request flag, with the hold's edge, shows in its zone alone. -/
theorem holdEdges_modZone_holdFlag (on : Bool) : (s.modZone z fun x => { x with holdFlag := on }).holdEdges s =
    s.putZone z ((s.zone z).holdFlagged line on) := by
  refine state_ext rfl fun y => ?_
  by_cases own : y = z
  · subst own
    have before : s.holdActive y = ((s.zone y).holdFlag || line) := holdActive_of_configured configured hline
    have after : (s.modZone y fun x => { x with holdFlag := on }).holdActive y = (on || line) :=
      holdActive_putZone (x := { s.zone y with holdFlag := on }) configured hline
    have begins : (!((s.zone y).holdFlag || line) && (on || line)) = (on && !((s.zone y).holdFlag || line)) := by
      cases line <;> simp [Bool.and_comm]
    rw [holdEdges, zone_mapZones, before, after, begins, zone_modZone, zone_putZone, if_pos rfl, if_pos rfl,
      Zone.holdFlagged]
    split <;> rfl
  · have apart : (s.modZone z fun x => { x with holdFlag := on }).zone y = s.zone y :=
      (zone_modZone s z y _).trans (if_neg own)
    have same : (s.modZone z fun x => { x with holdFlag := on }).holdActive y = s.holdActive y :=
      holdActive_congr (s := s) (u := s.modZone z _) (fun _ => ⟨rfl, rfl⟩) apart
    rw [zone_holdEdges_of_same same, apart, zone_putZone, if_neg own]

/-- HOLD-ZONE's reply after the write. -/
theorem holdBytes_putZone_holdFlagged (on : Bool) :
    (s.putZone z ((s.zone z).holdFlagged line on)).holdBytes z = [if on then 1 else 0, if on || line then 1 else 0] := by
  have active : (s.putZone z ((s.zone z).holdFlagged line on)).holdActive z = (on || line) :=
    holdActive_putZone (x := (s.zone z).holdFlagged line on) configured hline
  rw [holdBytes, active, zone_putZone, if_pos rfl]
  rfl

end

variable {zone action : Byte}

theorem holdZone_of_range (mode : s.mode ≠ .starting) (far : 47 < zone.toNat) :
    s.holdZone zone action = s.refuse .range 0 := by
  rw [holdZone, if_neg mode, zoneOf_eq_none far]

/-- HOLD-ZONE for a zone number in range: the tests on the action and the condition, then the flag (R138). -/
theorem holdZone_of_number (mode : s.mode ≠ .starting) (hz : zone.toNat = z.val) : s.holdZone zone action =
    if 1 < action.toNat then s.refuse .range 1
    else if (s.zone z).condition = .unconfigured then s.refuse .noSuch 0
    else
      let flagged := (s.modZone z fun x => { x with holdFlag := action = 0 }).holdEdges s
      flagged.answer .ok (flagged.holdBytes z) := by
  rw [holdZone, if_neg mode, zoneOf_eq_some hz]

end State

end Sys2Proof.Machine

namespace Sys2Proof.Proofs

open Sys2Proof Machine Safety

/-- HOLD-ZONE on a configured zone: the flag is written, and the reply tells it and whether the hold is active (R138). -/
theorem exec_holdZone_configured {c : Instr} {zone action : Byte} {s : State} {f : Frame} {z : ZoneId} {line on : Bool}
    (taken : exec c s = .next ((s.inHand f).holdZone zone action)) (pin : s.link.resetLow = false)
    (mode : s.mode ≠ .starting) (hz : zone.toNat = z.val) (known : action.toNat ≤ 1)
    (configured : (s.zone z).condition ≠ .unconfigured)
    (hline : line = s.lineAsserted (chanOf (s.zone z).entry.settings.holdLine)) (hon : decide (action = 0) = on) :
    exec c s = .next (replied (s.putZone z ((s.zone z).holdFlagged line on)) f .ok
      [if on then 1 else 0, if on || line then 1 else 0]) := by
  have written := State.holdEdges_modZone_holdFlag (s := s.inHand f) configured hline on
  have bytes := State.holdBytes_putZone_holdFlagged (s := s.inHand f) configured hline on
  refine exec_answers (t := s.putZone z _) taken pin ?_
  rw [State.holdZone_of_number (by exact mode) hz, if_neg (Nat.not_lt.mpr known), if_neg (by exact configured), hon]
  dsimp only
  rw [written, bytes]
  rfl

/-- Settles O38: by the refusals in order, then by whether the write begins a hold. -/
theorem holdZoneSetsFlag : Obligations.HoldZoneSetsFlag := by
  intro ft zone action s f c row hf free
  have taken : exec c s = .next ((s.inHand f).holdZone zone action) := by
    rcases row with rfl | ⟨rfl, rfl⟩
    · exact exec_of_free (fun t => t.holdZone zone action) rfl hf free
    · exact exec_of_free (fun t => t.holdZone zone 1) rfl hf free
  have numbered := fun z => State.holdZone_of_number (s := s.inHand f) (zone := zone) (action := action) (z := z)
  refine ⟨fun starting => exec_refuses taken free.1 (if_pos starting),
    fun mode far => exec_refuses taken free.1 (State.holdZone_of_range mode far),
    fun mode near unknown => exec_refuses taken free.1 ((numbered ⟨zone.toNat, by omega⟩ mode rfl).trans (if_pos unknown)),
    fun z old line mode hz known hold hline => ?_⟩
  subst hold
  have written := fun on => exec_holdZone_configured (line := line) (on := on) taken free.1 mode hz known
  refine ⟨fun unset => exec_refuses taken free.1 ?_, fun configured release => ?_, fun configured set still => ?_,
    fun r r' configured set clear low record hr => ?_⟩
  · exact (numbered z mode hz).trans ((if_neg (Nat.not_lt.mpr known)).trans (if_pos unset))
  · rw [written false configured hline (by simp [release]), Zone.holdFlagged_of_not_begins (.inl rfl)]
    rfl
  · rw [written true configured hline (by simp [set]), Zone.holdFlagged_of_not_begins (.inr still)]
    rfl
  · subst low hr
    rw [written true configured hline (by simp [set]), Zone.holdFlagged_of_begins clear record]
    rfl

end Sys2Proof.Proofs

/-! ## CLEAR-ZONE (R139, R140) -/

namespace Sys2Proof.Machine

open Sys2Proof Proofs

namespace Zone

variable {x : Zone}

theorem isClosing_iff : x.isClosing = true ↔ ∃ r, x.record = some r ∧ r.state = .closing := by
  unfold isClosing
  cases x.record <;> simp

theorem settled_iff : x.settled = true ↔ x.entry.settings.nSettle.toNat ≤ x.settling := decide_eq_true_iff

/-- REBASE needs a settled zone whose history has a C (R140). -/
theorem rebase_fails_iff : (!x.settled || x.newestCorrected.isNone) = true ↔
    x.settling < x.entry.settings.nSettle.toNat ∨ x.newestCorrected = none := by
  simp [settled]

/-- Under every option run and episodes become 0 (R140). -/
theorem counts_cleared (option : Byte) (c : Int) : (x.cleared option c).run = 0 ∧ (x.cleared option c).episodes = 0 := by
  unfold cleared
  dsimp only
  split
  · exact ⟨rfl, rfl⟩
  · split
    · exact ⟨rfl, rfl⟩
    · exact ⟨rfl, rfl⟩

theorem clearedBytes_cleared (option : Byte) (c : Int) : (x.cleared option c).clearedBytes =
    [BitVec.ofNat 8 (x.cleared option c).condition.code] ++ be32 (BitVec.ofInt 32 (x.cleared option c).baseline) ++
      be32 (BitVec.ofInt 32 (x.cleared option c).spread) ++ [BitVec.ofNat 8 (x.cleared option c).settling, 0, 0] := by
  obtain ⟨run, episodes⟩ := x.counts_cleared option c
  rw [clearedBytes, run, episodes, baselineBytes, List.append_assoc, List.append_assoc]
  rfl

theorem cleared_relearn (c : Int) : x.cleared 0 c =
    { x with run := 0, episodes := 0, baseline := 0, spread := 0, settling := 0, kept := .settling } := rfl

theorem cleared_rebase (c : Int) : x.cleared 1 c = { x with run := 0, episodes := 0, baseline := c, kept := .clear } := rfl

theorem cleared_keep (c : Int) : x.cleared 2 c =
    { x with
      run := 0
      episodes := 0
      kept := if x.entry.settings.nSettle.toNat ≤ x.settling then .clear else .settling } := by
  simp only [← settled_iff]
  rfl

end Zone

namespace State

variable {s : State} {zone option : Byte} {z : ZoneId}

theorem clearZone_of_range (mode : s.mode ≠ .starting) (far : 47 < zone.toNat) :
    s.clearZone zone option = s.refuse .range 0 := by
  rw [clearZone, if_neg mode, zoneOf_eq_none far]

/-- CLEAR-ZONE for a zone number in range: the tests of R139 in order, then the option (R140). -/
theorem clearZone_of_number (mode : s.mode ≠ .starting) (hz : zone.toNat = z.val) : s.clearZone zone option =
    if 2 < option.toNat then s.refuse .range 1
    else if (s.zone z).condition = .unconfigured ∨ (s.zone z).condition = .fault then s.refuse .wrongState 0
    else if ∃ r, (s.zone z).record = some r ∧ r.state = .closing then s.refuse .busy 0
    else if option = 1 ∧ ((s.zone z).settling < (s.zone z).entry.settings.nSettle.toNat ∨
        (s.zone z).newestCorrected = none) then s.answer .invalid [0, 1, zone, 0, 0]
    else
      let done := (s.zone z).cleared option ((s.zone z).newestCorrected.getD 0)
      (s.putZone z done).answer .ok done.clearedBytes := by
  have outside : (!(s.zone z).inService) = true ↔
      (s.zone z).condition = .unconfigured ∨ (s.zone z).condition = .fault := by
    rw [Bool.not_eq_true', ← Bool.not_eq_true, inService_iff, not_and_or, not_not, not_not]
  have number : refusalDetail 0 1 z.val 0 0 = [0, 1, zone, 0, 0] := by
    simp [refusalDetail, enc8, ← hz]
  rw [clearZone, if_neg mode, zoneOf_eq_some hz]
  simp only [outside, Zone.isClosing_iff, Bool.and_eq_true, decide_eq_true_eq, Zone.rebase_fails_iff, number]

end State

end Sys2Proof.Machine

namespace Sys2Proof.Proofs

open Sys2Proof Machine Safety

/-- Settles O39: by the tests in order, then by the option. -/
theorem clearZoneActsByOption : Obligations.ClearZoneActsByOption := by
  intro ft zone option s f c row hf free
  have taken : exec c s = .next ((s.inHand f).clearZone zone option) := by
    rcases row with rfl | ⟨rfl, rfl⟩ | ⟨rfl, rfl⟩
    · exact exec_of_free (fun t => t.clearZone zone option) rfl hf free
    · exact exec_of_free (fun t => t.clearZone zone 1) rfl hf free
    · exact exec_of_free (fun t => t.clearZone zone 2) rfl hf free
  have numbered := fun z => State.clearZone_of_number (s := s.inHand f) (zone := zone) (option := option) (z := z)
  refine ⟨fun starting => exec_refuses taken free.1 (if_pos starting),
    fun mode far => exec_refuses taken free.1 (State.clearZone_of_range mode far),
    fun mode near unknown => exec_refuses taken free.1 ((numbered ⟨zone.toNat, by omega⟩ mode rfl).trans (if_pos unknown)),
    fun z old latest mode hz known hold hlatest => ?_⟩
  subst hold hlatest
  have tests := (numbered z mode hz).trans (if_neg (Nat.not_lt.mpr known))
  refine ⟨fun outside => exec_refuses taken free.1 (tests.trans (if_pos outside)), fun configured sound => ?_⟩
  replace tests := tests.trans (if_neg (not_or.mpr ⟨configured, sound⟩))
  refine ⟨fun r record closing => exec_refuses taken free.1 (tests.trans (if_pos ⟨r, record, closing⟩)), fun unclosed => ?_⟩
  replace tests := tests.trans (if_neg fun ⟨r, record, closing⟩ => unclosed r record closing)
  refine ⟨fun rebase fails => exec_answers taken free.1 (tests.trans (if_pos ⟨rebase, fails⟩)), fun new hnew => ?_⟩
  have acts : ¬(option = 1 ∧ ((s.zone z).settling < (s.zone z).entry.settings.nSettle.toNat ∨
      (s.zone z).newestCorrected = none)) ∧ new = (s.zone z).cleared option ((s.zone z).newestCorrected.getD 0) := by
    rcases hnew with ⟨rfl, rfl⟩ | ⟨b, rfl, found, settled, rfl⟩ | ⟨rfl, rfl⟩
    · exact ⟨by simp, (Zone.cleared_relearn _).symm⟩
    · have newest : (s.zone z).newestCorrected = some b := found
      rw [newest]
      exact ⟨by simp [settled], (Zone.cleared_rebase _).symm⟩
    · exact ⟨by simp, (Zone.cleared_keep _).symm⟩
  obtain ⟨passes, rfl⟩ := acts
  rw [← Zone.clearedBytes_cleared]
  exact exec_answers (t := s.putZone z _) taken free.1 (tests.trans (if_neg passes))

end Sys2Proof.Proofs

/-! ## Leaving SETUP (R161) -/

namespace Sys2Proof.Machine.State

open Sys2Proof Proofs Safety

variable {s : State}

/-! ### The two object checks -/

/-- The settings of a zone are charged with a field exactly where the manual's list has one that fails. -/
theorem settingsFault_isSome_iff (x : ZoneSettings) : (settingsFault x).isSome = true ↔ zoneItem x ≠ none := by
  rw [← settingsFault_item, Option.isSome_iff_ne_none, Ne, Ne, Option.map_eq_none_iff]

/-- Check 2 for one zone: only a hold line that names a channel can fail by its mode. -/
theorem zoneUnfit_iff (s : State) (z : ZoneId) : s.zoneUnfit z = true ↔
    (s.zone z).condition ≠ .unconfigured ∧ (s.zone z).condition ≠ .fault ∧
      (zoneItem (s.zone z).entry.settings ≠ none ∨
        ∃ x : ChanId, (s.zone z).entry.settings.holdLine.toNat = x.val ∧ (s.channel x).mode ≠ .status) := by
  simp only [zoneUnfit, Bool.and_eq_true, Bool.or_eq_true, inService_iff, settingsFault_isSome_iff, and_assoc,
    ← chanOf_eq_some_iff]
  cases chanOf (s.zone z).entry.settings.holdLine with
  | none => simp
  | some c => simp

/-- Check 3 for one slot: a channel number that names no channel fails too. -/
theorem slotUnfit_iff (s : State) (m : SlotId) : s.slotUnfit m = true ↔
    ((s.meter m).state = .awaiting ∨ (s.meter m).state = .live ∨ (s.meter m).state = .doubtful) ∧
      (s.meter m).binding.source = 2 ∧
      ∀ x : ChanId, (s.meter m).binding.channel.toNat = x.val → (s.channel x).mode ≠ .count := by
  simp only [slotUnfit, Bool.and_eq_true, Bool.or_eq_true, decide_eq_true_eq, isPulse_iff, and_assoc, or_assoc,
    ← chanOf_eq_some_iff]
  cases chanOf (s.meter m).binding.channel with
  | none => simp
  | some c => simp

/-! ### The checks in order -/

/-- The first night is on the grid when its deadline is at most time end (R5). -/
theorem onGrid_firstNight_iff (s : State) : s.grid.onGrid (s.grid.firstNight s.now) = true ↔
    s.time.grid.deadline (s.time.grid.firstNight s.time.partTime) ≤ 4294967295 := decide_eq_true_iff

/-- Check 1: the first night's deadline lies beyond time end. -/
theorem leaveFault_of_off_grid
    (off : 4294967295 < s.time.grid.deadline (s.time.grid.firstNight s.time.partTime)) :
    s.leaveFault = some [1, 0, 0, 0, 0] :=
  if_pos (by rw [Bool.not_eq_true', ← Bool.not_eq_true, onGrid_firstNight_iff, Nat.not_le]; exact off)

section

variable (on : s.time.grid.deadline (s.time.grid.firstNight s.time.partTime) ≤ 4294967295)
include on

/-- With check 1 passed, the lowest unfit zone is named, and without one the lowest unfit slot. -/
theorem leaveFault_of_on_grid : s.leaveFault =
    (((List.finRange 48).find? s.zoneUnfit).map fun z => refusalDetail 2 1 z.val 0 0).or
      (((List.finRange 128).find? s.slotUnfit).map fun m => refusalDetail 3 2 m.val 0 0) := by
  have passes : ¬(!s.grid.onGrid (s.grid.firstNight s.now)) = true := by simp [s.onGrid_firstNight_iff.mpr on]
  rw [leaveFault, if_neg passes]
  cases (List.finRange 48).find? s.zoneUnfit with
  | some z => rfl
  | none => cases (List.finRange 128).find? s.slotUnfit <;> rfl

/-- Check 2: the lowest zone that fails it. -/
theorem leaveFault_of_zoneUnfit {z : ZoneId} (fails : s.zoneUnfit z = true)
    (least : ∀ y, y < z → ¬s.zoneUnfit y = true) : s.leaveFault = some [2, 1, BitVec.ofNat 8 z.val, 0, 0] := by
  rw [leaveFault_of_on_grid on, find?_finRange fails fun y below => Bool.eq_false_iff.mpr (least y below)]
  rfl

variable (zones : ∀ z, ¬s.zoneUnfit z = true)
include zones

/-- With check 2 passed, the slots decide. -/
theorem leaveFault_of_zones_fit : s.leaveFault =
    ((List.finRange 128).find? s.slotUnfit).map fun m => refusalDetail 3 2 m.val 0 0 := by
  rw [leaveFault_of_on_grid on, List.find?_eq_none.mpr fun z _ => zones z]
  rfl

/-- Check 3: the lowest slot that fails it. -/
theorem leaveFault_of_slotUnfit {m : SlotId} (fails : s.slotUnfit m = true)
    (least : ∀ k, k < m → ¬s.slotUnfit k = true) : s.leaveFault = some [3, 2, BitVec.ofNat 8 m.val, 0, 0] := by
  rw [leaveFault_of_zones_fit on zones, find?_finRange fails fun k below => Bool.eq_false_iff.mpr (least k below)]
  rfl

/-- All three checks pass. -/
theorem leaveFault_of_fit (slots : ∀ m, ¬s.slotUnfit m = true) : s.leaveFault = none := by
  rw [leaveFault_of_zones_fit on zones, List.find?_eq_none.mpr fun m _ => slots m]
  rfl

end

/-! ### The request -/

/-- The part in STARTING with the start-up pass at its first entry; a pass in flight is abandoned first (R154, R155). -/
def started (s : State) : State :=
  { s with
    ctl := { s.ctl with mode := .starting }
    checker := { s.checker.abandon with pass := some { origin := .startUp, next := 0, mismatches := 0 } } }

theorem leaveSetup_of_fault {detail : List Byte} (setup : s.mode = .setup) (fails : s.leaveFault = some detail) :
    s.leaveSetup = s.answer .invalid detail := by
  rw [leaveSetup, if_pos setup, fails]

theorem leaveSetup_of_fit (setup : s.mode = .setup) (passes : s.leaveFault = none) :
    s.leaveSetup = s.started.answer .accepted [] := by
  rw [leaveSetup, if_pos setup, passes]
  rfl

end Sys2Proof.Machine.State

namespace Sys2Proof.Proofs

open Sys2Proof Machine Safety State

/-- Settles O52: by the mode, then by the first check that fails. -/
theorem leaveSetupChecksThenStarts : Obligations.LeaveSetupChecksThenStarts := by
  intro ft s f unfit loose hf free hunfit hloose
  have taken := exec_of_free State.leaveSetup rfl hf free
  obtain rfl : unfit = fun z => s.zoneUnfit z = true := funext fun z => propext ((hunfit z).trans (s.zoneUnfit_iff z).symm)
  obtain rfl : loose = fun m => s.slotUnfit m = true := funext fun m => propext ((hloose m).trans (s.slotUnfit_iff m).symm)
  have refused {detail : List Byte} (setup : s.mode = .setup) (fails : (s.inHand f).leaveFault = some detail) :
      exec (.leaveSetup ft) s = .next (replied s f .invalid detail) :=
    exec_answers taken free.1 (leaveSetup_of_fault setup fails)
  refine ⟨fun mode => exec_refuses taken free.1 (if_neg mode),
    fun setup off => refused setup (leaveFault_of_off_grid off), fun setup on => ⟨fun z fails least => ?_,
    fun m zones fails least => ?_, fun zones slots => ?_⟩⟩
  · exact refused setup (leaveFault_of_zoneUnfit on fails least)
  · exact refused setup (leaveFault_of_slotUnfit on zones fails least)
  · exact exec_answers (t := s.started) taken free.1 (leaveSetup_of_fit setup (leaveFault_of_fit on zones slots))

end Sys2Proof.Proofs

/-! ## Power-on and the RESET pin (R166, R170, R188) -/

namespace Sys2Proof.Machine

open Sys2Proof

/-- The straps select the rate, the higher strap first (R175). -/
theorem rateOf_eq_ite (r1 r0 : Bool) :
    rateOf r1 r0 = if r1 then (if r0 then .r460800 else .r115200) else (if r0 then .r38400 else .r9600) := by
  cases r1 <;> cases r0 <;> rfl

/-! ### What a low RESET pin does to the link -/

/-- A request that waits or is worked on is kept while the RESET pin is low; a reply being sent is not (R188, log 23). -/
def HandPhase.outlastsLow : HandPhase → Bool
  | .waiting | .working => true
  | .sending _ => false

/-- The link once the RESET pin is low. -/
def Link.pinnedLow (l : Link) : Link :=
  { l with resetLow := true, hand := l.hand.filter fun h => h.phase.outlastsLow }

theorem exec_resetPinLow (s : State) : exec .resetPinLow s = .next (s.modLink Link.pinnedLow) := by
  refine congrArg (fun hand => Host.Outcome.next (s.modLink fun l => { l with resetLow := true, hand := hand })) ?_
  cases s.link.hand with
  | none => rfl
  | some h => obtain ⟨_, phase⟩ := h; cases phase <;> rfl

theorem Link.hand_pinnedLow_of_sending {l : Link} {f : Frame} {r : Reply}
    (hand : l.hand = some { frame := f, phase := .sending r }) : l.pinnedLow.hand = none := by
  rw [pinnedLow, hand]
  rfl

theorem Link.hand_pinnedLow_of_unanswered {l : Link} {h : InHand} (hand : l.hand = some h)
    (unanswered : h.phase = .waiting ∨ h.phase = .working) : l.pinnedLow.hand = some h := by
  have kept : h.phase.outlastsLow = true := by rcases unanswered with phase | phase <;> rw [phase] <;> rfl
  rw [pinnedLow, hand]
  exact if_pos kept

/-- A low RESET pin keeps ATTN from being driven, whatever is latched (R170). -/
theorem State.attnLine_of_resetLow {s : State} (low : s.link.resetLow = true) : s.attnLine = false := by
  rw [attnLine, low]
  rfl

/-! ### What is ignored while the pin is low -/

theorem State.receive_of_resetLow {s : State} (low : s.link.resetLow = true) (e : RxEvent) : s.receive e = s := if_pos low

/-- Every command that spells a request frame runs through `State.request`, with an action of its row's own. -/
theorem exec_eq_request {c : Instr} {f : Frame} (hf : encodeRequest c = some f) :
    ∃ act : State → State, ∀ s, exec c s = .next (s.request c act) := by
  cases c with
  | secondTick | standstillEnd | pinChange | statusLevelChange | byteReceived | frameGapTimeout | replySent | powerOn
  | pinReset | leavingPhaseEnd | restartClear | readingPair | captureRecord | resumeRecord | intakeItemEnd
  | analyserTakeZone | nightAnalysisEnd | checkPassVerify | resetPinLow => cases hf
  | unknownKind | statusGet | enterSetup | leaveSetup | restart | setClock | setGrid | timeMark | setZone
  | setZoneUnconfigure | zoneGet | nightGetSummary | nightGetVolumes | nightGetPressure | historyGet | holdZoneSet
  | holdZoneRelease | clearZoneRelearn | clearZoneRebase | clearZoneKeep | baselineGet | baselinePut | stageMeter
  | commitStage | discardStage | meterGet | meterRelease | setChannel | channelGet | gateChannelSet | gateChannelRelease
  | reading | readingBatch | pressure | setPressureTable | pressureTableQuery | findingsTake | attnGet | attnClear
  | attnEnable | entryRaw | checkPass => exact ⟨_, fun _ => rfl⟩

theorem exec_request_of_resetLow {c : Instr} {f : Frame} {s : State} (low : s.link.resetLow = true)
    (hf : encodeRequest c = some f) : exec c s = .next s := by
  obtain ⟨act, runs⟩ := exec_eq_request hf
  rw [runs, State.request_resetLow c act low]

end Sys2Proof.Machine

namespace Sys2Proof.Proofs

open Sys2Proof Machine Safety

/-- Power-on leaves the reset state, but for the pins' levels, the link's rate and RESET level, and the waiting commands. -/
theorem powerUp_eq (s : State) (r1 r0 low : Bool) :
    s.powerUp r1 r0 low =
      { State.reset with channels := (s.powerUp r1 r0 low).channels
                         link := { State.reset.link with rate := rateOf r1 r0, resetLow := low }
                         pending := s.pending } := rfl

/-- Settles O54: both resets are `State.powerUp`; a low pin changes the link alone, and what is received then is ignored. -/
theorem resetsPutEveryBlockInItsResetState : Obligations.ResetsPutEveryBlockInItsResetState := by
  refine ⟨fun r1 r0 low s c rate row hrate => ?_, fun s => ?_, fun e s low => ?_, fun c f s low hf => ?_⟩
  · have powered : exec c s = .next (s.powerUp r1 r0 low) := by
      rcases row with ⟨rfl, rfl⟩ | ⟨rfl, rfl⟩ <;> rfl
    obtain rfl : rate = rateOf r1 r0 := hrate.trans (rateOf_eq_ite r1 r0).symm
    refine ⟨_, powered, powerUp_eq s r1 r0 low, fun x => ?_⟩
    rw [channel_powerUp, State.channel_reset]
  · exact ⟨_, exec_resetPinLow s, rfl, State.attnLine_of_resetLow rfl, rfl, rfl,
      fun f r hand => Link.hand_pinnedLow_of_sending hand, fun h hand => Link.hand_pinnedLow_of_unanswered hand⟩
  · exact congrArg Host.Outcome.next (State.receive_of_resetLow low e)
  · exact exec_request_of_resetLow low hf

end Sys2Proof.Proofs

/-! ## The attention requests (R170 to R173) -/

namespace Sys2Proof.Machine.State

variable (s : State)

/-- The raw conditions are those of the queue and of the fault marks, whatever is latched or enabled (R171). -/
theorem rawSet_modAttn (change : Attention → Attention) : (s.modAttn change).rawSet = s.rawSet := rfl

/-- Of the cleared flags, the level flags whose raw condition stands stay latched (R172). -/
theorem attn_clearFlags (flags : Byte) : (s.clearFlags flags).attn =
    { s.attn with latched := (s.attn.latched &&& ~~~flags) ||| (s.rawSet &&& flags) } := rfl

theorem clearFlags_frame (flags : Byte) : s.clearFlags flags = { s with attn := (s.clearFlags flags).attn } := rfl

/-- The sets that ATTN-CLEAR answers are those after the clearing (R172). -/
theorem attnBytes_clearFlags (flags : Byte) : (s.clearFlags flags).attnBytes =
    [s.rawSet, (s.attn.latched &&& ~~~flags) ||| (s.rawSet &&& flags), s.attn.mask] := by
  rw [attnBytes, attn_clearFlags, clearFlags, latch, unlatch, rawSet_modAttn, rawSet_modAttn]

/-- The sets that ATTN-ENABLE answers are those with the new mask (R173). -/
theorem attnBytes_enabled (mask : Byte) : (s.modAttn fun a => { a with mask := mask }).attnBytes =
    [s.rawSet, s.attn.latched, mask] := by
  rw [attnBytes, rawSet_modAttn, attn_modAttn]

variable {s}

/-- With the RESET pin high the line stands exactly while a latched flag is enabled (R170). -/
theorem attnLine_iff_of_resetHigh (high : s.link.resetLow = false) :
    s.attnLine = true ↔ s.attn.latched &&& s.attn.mask ≠ 0 := by
  rw [attnLine, high, Bool.not_false, Bool.true_and, bne_iff_ne]

end Sys2Proof.Machine.State

namespace Sys2Proof.Proofs

open Sys2Proof Machine Safety State

/-- Settles O46: the three requests one after another, each from the sets it answers, then the line of a reply. -/
theorem attentionRequestsAnswerSets : Obligations.AttentionRequestsAnswerSets := by
  rintro ft b s raw latched hraw rfl
  obtain rfl : raw = s.rawSet := hraw
  refine ⟨fun f hf free => ?_, fun f hf free => ?_, fun f hf free => ?_, fun f st body high => ?_⟩
  · have taken := exec_of_free (fun t => t.answer .ok t.attnBytes) rfl hf free
    exact exec_answers (t := s) taken free.1 rfl
  · have taken := exec_of_free (fun t => t.attnClear b) rfl hf free
    refine exec_answers (t := { s with attn := _ }) taken free.1 ?_
    rw [attnClear, attnBytes_clearFlags, clearFlags_frame, attn_clearFlags]
    rfl
  · have taken := exec_of_free (fun t => t.attnEnable b) rfl hf free
    refine exec_answers (t := { s with attn := _ }) taken free.1 ?_
    rw [attnEnable, attnBytes_enabled]
    rfl
  · exact attnLine_iff_of_resetHigh high

end Sys2Proof.Proofs

/-! ## A step with a command waiting (log 1) -/

namespace Sys2Proof.Proofs

open Sys2Proof Machine

/-- Settles O1: a queue that is not empty runs its first command. -/
theorem stepTakesFrontCommand : Obligations.StepTakesFrontCommand := by
  intro c rest s front
  rw [step, front]

end Sys2Proof.Proofs

/-! ## The receiver (R176, R177) -/

namespace Sys2Proof.Machine

open Sys2Proof Safety

/-- The bytes after a start byte, when as many as the length byte asks for: a frame exactly when the CRC holds (R176). -/
theorem frameOfBytes_eq_ite {len tag kind : Byte} {body : List Byte} (c1 c0 : Byte) (size : body.length + 2 = len.toNat) :
    frameOfBytes (len :: tag :: kind :: body ++ [c1, c0]) =
      if [c1, c0] = be16 (crc16 (len :: tag :: kind :: body)) then some ⟨tag, kind, body⟩ else none := by
  have cut : len.toNat - 2 = body.length := by omega
  simp [frameOfBytes, cut]

namespace Receiver

theorem receive_of_not_start {e : RxEvent} (other : e ≠ .byte 0xC3) : hunting.receive e = (.hunting, none) := by
  cases e with
  | byte b => exact congrArg (·, none) (if_neg fun start => other (congrArg _ start))
  | framingError => rfl

theorem receive_length {b : Byte} (least : 2 ≤ b.toNat) (most : b.toNat ≤ 240) :
    (inFrame []).receive (.byte b) = (.inFrame [b], none) :=
  congrArg (·, none) (if_pos (by simp [least, most]))

theorem receive_bad_length {b : Byte} (outside : b.toNat < 2 ∨ 240 < b.toNat) :
    (inFrame []).receive (.byte b) = (.hunting, none) :=
  congrArg (·, none) (if_neg (by simp; omega))

theorem receive_framingError (r : Receiver) : r.receive .framingError = (.hunting, none) := by
  rcases r with _ | ⟨_ | ⟨_, _⟩⟩ <;> rfl

theorem receive_within {len : Byte} {rest : List Byte} (b : Byte) (incomplete : rest.length + 2 ≠ len.toNat + 3) :
    (inFrame (len :: rest)).receive (.byte b) = (.inFrame (len :: rest ++ [b]), none) :=
  if_neg (by simpa using incomplete)

theorem receive_last {len tag kind c1 : Byte} {body : List Byte} (c0 : Byte) (size : body.length + 2 = len.toNat) :
    (inFrame (len :: tag :: kind :: body ++ [c1])).receive (.byte c0) = (.hunting,
      if [c1, c0] = be16 (crc16 (len :: tag :: kind :: body)) then some ⟨tag, kind, body⟩ else none) := by
  rw [← frameOfBytes_eq_ite c1 c0 size]
  have complete : (len :: (tag :: kind :: body ++ [c1]) ++ [c0]).length = len.toNat + 3 := by simp [← size]
  refine (if_pos complete).trans ?_
  simp

end Receiver

/-! ## The input queue and the request in hand (R178, R179) -/

namespace State

/-- The state with `frames` in the input queue. -/
def withQueue (s : State) (frames : List Frame) : State := { s with link := { s.link with queue := frames } }

/-- The state with the receiver moved. -/
def withRx (s : State) (rx : Receiver) : State := { s with link := { s.link with rx := rx } }

variable {s : State} {f : Frame} {rest : List Frame}

theorem withQueue_self (held : s.link.queue = rest) : s.withQueue rest = s := by
  rw [← held]
  rfl

theorem withRx_self {rx : Receiver} (held : s.link.rx = rx) : s.withRx rx = s := by
  rw [← held]
  rfl

/-! ### Frames offered -/

theorem offerFrame_of_room (f : Frame) (room : s.link.queue.length < 2) :
    s.offerFrame f = s.withQueue (s.link.queue ++ [f]) :=
  congrArg (fun l => { s with link := l }) (if_pos room)

theorem offerFrame_of_full (f : Frame) (full : 2 ≤ s.link.queue.length) :
    s.offerFrame f = { s with link := { s.link with dropped := true } } :=
  congrArg (fun l => { s with link := l }) (if_neg (Nat.not_lt.mpr full))

theorem offerFrame_of_empty (f : Frame) (empty : s.link.queue = []) : s.offerFrame f = s.withQueue [f] := by
  rw [offerFrame_of_room f (by simp [empty]), empty]
  rfl

theorem hand_offerFrame (s : State) (f : Frame) : (s.offerFrame f).link.hand = s.link.hand := by
  unfold offerFrame
  rw [link_modLink]
  split <;> rfl

/-! ### Frames taken -/

theorem takeFrame_of_busy (busy : s.link.hand ≠ none) : s.takeFrame = s := by
  unfold takeFrame
  split
  next idle _ => exact absurd idle busy
  next => rfl

theorem takeFrame_of_empty (empty : s.link.queue = []) : s.takeFrame = s := by
  unfold takeFrame
  split
  next queued => cases empty.symm.trans queued
  next => rfl

theorem takeFrame_of_queued (idle : s.link.hand = none) (queued : s.link.queue = f :: rest) :
    s.takeFrame =
      if decodeRequest f = none then ((s.withQueue rest).inHand f).refuse .badLength 0
      else (s.withQueue rest).inHand f := by
  unfold takeFrame
  rw [idle, queued]
  rfl

theorem takeFrame_of_request (idle : s.link.hand = none) (queued : s.link.queue = f :: rest)
    (readable : decodeRequest f ≠ none) : s.takeFrame = (s.withQueue rest).inHand f :=
  (takeFrame_of_queued idle queued).trans (if_neg readable)

/-- A body whose length does not match its kind is answered as its frame is taken (R179, log 10). -/
theorem takeFrame_of_badLength (high : s.link.resetLow = false) (idle : s.link.hand = none)
    (queued : s.link.queue = f :: rest) (unreadable : decodeRequest f = none) :
    s.takeFrame = replied (s.withQueue rest) f .badLength (itemOnly 0) :=
  ((takeFrame_of_queued idle queued).trans (if_pos unreadable)).trans (refuse_inHand .badLength 0 high)

/-- At a free link a frame passes the empty queue at once. -/
theorem takeFrame_offerFrame_of_request (idle : s.link.hand = none) (empty : s.link.queue = [])
    (readable : decodeRequest f ≠ none) : (s.offerFrame f).takeFrame = s.inHand f := by
  rw [offerFrame_of_empty f empty, takeFrame_of_request (s := s.withQueue [f]) idle rfl readable]
  exact congrArg (inHand · f) (withQueue_self empty)

theorem takeFrame_offerFrame_of_badLength (high : s.link.resetLow = false) (idle : s.link.hand = none)
    (empty : s.link.queue = []) (unreadable : decodeRequest f = none) :
    (s.offerFrame f).takeFrame = replied s f .badLength (itemOnly 0) := by
  rw [offerFrame_of_empty f empty, takeFrame_of_badLength (s := s.withQueue [f]) high idle rfl unreadable]
  exact congrArg (replied · f .badLength (itemOnly 0)) (withQueue_self empty)

/-! ### Bytes received, and replies that have left -/

theorem exec_byteReceived_of_none {e : RxEvent} {rx : Receiver} (high : s.link.resetLow = false)
    (moves : s.link.rx.receive e = (rx, none)) : exec (.byteReceived e) s = .next (s.withRx rx) := by
  show Host.Outcome.next (s.receive e) = _
  unfold receive
  simp only [high, moves]
  rfl

theorem exec_byteReceived_of_frame {e : RxEvent} {rx : Receiver} (high : s.link.resetLow = false)
    (moves : s.link.rx.receive e = (rx, some f)) :
    exec (.byteReceived e) s = .next (((s.withRx rx).offerFrame f).takeFrame) := by
  show Host.Outcome.next (s.receive e) = _
  unfold receive
  simp only [high, moves]
  rfl

/-- A complete frame whose CRC holds is offered to the queue, and taken by a free link (R177, R178). -/
theorem exec_byteReceived_last {len tag kind c1 c0 : Byte} {body : List Byte} (high : s.link.resetLow = false)
    (rx : s.link.rx = .inFrame (len :: tag :: kind :: body ++ [c1])) (size : body.length + 2 = len.toNat)
    (crc : [c1, c0] = be16 (crc16 (len :: tag :: kind :: body))) :
    exec (.byteReceived (.byte c0)) s = .next (((s.withRx .hunting).offerFrame ⟨tag, kind, body⟩).takeFrame) :=
  exec_byteReceived_of_frame high (by rw [rx, Receiver.receive_last c0 size, if_pos crc])

/-- With no reply being sent no reply has left (log 2). -/
theorem replySent_of_not_sending (quiet : ∀ g r, s.link.hand ≠ some { frame := g, phase := .sending r }) :
    s.replySent = s := by
  unfold replySent
  split
  next h hand =>
    split
    next r sending => exact absurd (by rw [hand, ← sending]) (quiet h.frame r)
    all_goals rfl
  next => rfl

theorem replySent_of_sending {g : Frame} {r : Reply} (hand : s.link.hand = some { frame := g, phase := .sending r }) :
    s.replySent = { s with link := { s.link with hand := none } }.takeFrame := by
  unfold replySent
  rw [hand]
  rfl

end State

end Sys2Proof.Machine

namespace Sys2Proof.Proofs

open Sys2Proof Machine Safety State

/-- Settles O55: by the receiver's table, then by what becomes of a complete frame. -/
theorem receiverFollowsTable : Obligations.ReceiverFollowsTable := by
  intro s high
  have moves {e : RxEvent} {rx rx' : Receiver} (now : s.link.rx = rx) (table : rx.receive e = (rx', none)) :
      exec (.byteReceived e) s = .next (s.withRx rx') := exec_byteReceived_of_none high (by rw [now, table])
  refine ⟨fun e hunting other => ?_, fun hunting => moves hunting rfl,
    fun b start least most => moves start (Receiver.receive_length least most),
    fun b start outside => moves start (Receiver.receive_bad_length outside),
    fun bytes within => moves within (Receiver.receive_framingError _),
    fun len b rest within incomplete => moves within (Receiver.receive_within b incomplete),
    fun len tag kind c1 c0 body rx size => ⟨fun crc => ?_, fun crc busy => ?_, fun crc idle empty readable => ?_⟩, rfl⟩
  · rw [moves hunting (Receiver.receive_of_not_start other), withRx_self hunting]
  · exact moves rx ((Receiver.receive_last c0 size).trans (by rw [if_neg crc]))
  · have offered : exec (.byteReceived (.byte c0)) s = .next ((s.withRx .hunting).offerFrame ⟨tag, kind, body⟩) := by
      rw [exec_byteReceived_last high rx size crc, takeFrame_of_busy (by rw [hand_offerFrame]; exact busy)]
    exact ⟨fun room => offered.trans (congrArg Host.Outcome.next (offerFrame_of_room (s := s.withRx .hunting) _ room)),
      fun full => offered.trans (congrArg Host.Outcome.next (offerFrame_of_full (s := s.withRx .hunting) _ full))⟩
  · rw [exec_byteReceived_last high rx size crc]
    exact congrArg Host.Outcome.next (takeFrame_offerFrame_of_request idle empty readable)

/-- Settles O56: by what stands in the queue when a reply has left, then by what is in hand when a frame or a request row
arrives. -/
theorem requestsAreAnsweredInOrder : Obligations.RequestsAreAnsweredInOrder := by
  refine fun s high => ⟨fun g r hand => ?_, fun quiet => ?_, fun len tag kind c1 c0 body rx size crc idle empty unreadable => ?_,
    fun ft kind body _ free => ?_, fun c f h hf hand other => ?_⟩
  · have sent {t : State} (takes : { s with link := { s.link with hand := none } }.takeFrame = t) :
        exec .replySent s = .next t := congrArg Host.Outcome.next ((replySent_of_sending hand).trans takes)
    exact ⟨fun empty => sent (takeFrame_of_empty empty),
      fun f rest queued readable => sent (takeFrame_of_request rfl queued readable),
      fun f rest queued unreadable => sent (takeFrame_of_badLength high rfl queued unreadable)⟩
  · exact congrArg Host.Outcome.next (replySent_of_not_sending quiet)
  · rw [exec_byteReceived_last high rx size crc]
    exact congrArg Host.Outcome.next (takeFrame_offerFrame_of_badLength (s := s.withRx .hunting) high idle empty unreadable)
  · exact exec_refuses (exec_of_free (fun t => t.refuse .unknownKind 0) rfl rfl free) high rfl
  · obtain ⟨act, runs⟩ := exec_eq_request hf
    rw [runs, request_busy act hf high hand other]
    exact ⟨fun room => congrArg Host.Outcome.next (offerFrame_of_room f room),
      fun full => congrArg Host.Outcome.next (offerFrame_of_full f full)⟩

end Sys2Proof.Proofs

/-! ## The fields of request frames, written and read (R176, R183, R185) -/

namespace Sys2Proof.Laws

open Sys2Proof Machine

theorem decodeSettings_eq_some_iff {bytes : List Byte} {x : ZoneSettings} :
    decodeSettings bytes = some x ↔ bytes = settingsBytes x := by
  constructor
  · intro h
    unfold decodeSettings at h
    split at h
    · cases h
      simp [settingsBytes]
    · cases h
  · rintro rfl
    simp [settingsBytes, decodeSettings, be32, be16]

theorem decodeBinding_eq_some_iff {bytes : List Byte} {b : MeterBinding} :
    decodeBinding bytes = some b ↔ bytes = bindingBytes b := by
  constructor
  · intro h
    unfold decodeBinding at h
    split at h
    · cases h
      simp [bindingBytes]
    · cases h
  · rintro rfl
    simp [bindingBytes, decodeBinding, be32]

theorem decodePairs_pairBytes (ps : List Pair) : decodePairs (ps.map pairBytes).flatten = some ps := by
  induction ps with
  | nil => rfl
  | cons p ps ih => simp [pairBytes, be32, decodePairs, ih]

theorem pairBytes_of_decodePairs {bytes : List Byte} {ps : List Pair} (read : decodePairs bytes = some ps) :
    bytes = (ps.map pairBytes).flatten := by
  induction bytes using decodePairs.induct generalizing ps with
  | case1 => cases read; rfl
  | case2 a b c d e f g h rest ih =>
    obtain ⟨qs, tail, rfl⟩ := Option.map_eq_some_iff.mp read
    simp [pairBytes, ← ih tail]
  | case3 bytes short long => simp [decodePairs] at read

theorem decodeWords_be16 (ws : List W16) : decodeWords (ws.map be16).flatten = ws := by
  induction ws with
  | nil => rfl
  | cons w ws ih => simp [be16, decodeWords, ih]

/-- No byte is left out of an even number of them. -/
theorem be16_decodeWords {bytes : List Byte} (even : Even bytes.length) :
    ((decodeWords bytes).map be16).flatten = bytes := by
  induction bytes using decodeWords.induct with
  | case1 a b rest ih =>
    have even : Even rest.length := by simpa [Nat.even_add_one] using even
    simp [decodeWords, ih even]
  | case2 bytes short =>
    match bytes with
    | [] => rfl
    | [_] => simp at even
    | a :: b :: rest => exact absurd rfl (short a b rest)

end Sys2Proof.Laws

/-! ## Requests read from their frames (R179) -/

namespace Sys2Proof.Proofs

open Sys2Proof Machine Laws

/-- A kind outside the catalogue is read whatever its body (R179). -/
theorem decodeRequest_of_not_catalogue {kind : Byte} (unknown : catalogue.contains kind = false) (ft : Byte)
    (body : List Byte) : decodeRequest ⟨ft, kind, body⟩ = some (.unknownKind ft kind body) := by
  simp only [catalogue, List.contains_eq_mem, List.mem_cons, List.not_mem_nil, or_false, decide_eq_false_iff_not,
    not_or] at unknown
  simp only [decodeRequest, unknown, reduceIte]

/-! ### Frames of a length that matches their kind -/

/-- The frame `f` is read as no request but the well-formed one whose frame it is. -/
def ReadBack (f : Frame) : Prop :=
  ∀ i, decodeRequest f = some i → encodeRequest i = some f ∧ i.wellFormed = true

variable {ft kind : Byte} {body : List Byte}

theorem readBack_of_not_catalogue (unknown : catalogue.contains kind = false) (fits : body.length ≤ maxBody) :
    ReadBack ⟨ft, kind, body⟩ := by
  intro i read
  rw [decodeRequest_of_not_catalogue unknown] at read
  cases read
  exact ⟨rfl, by simp [Instr.wellFormed, -List.contains_eq_mem, unknown, fits]⟩

/-- The kinds whose body is a fixed number of byte fields (12.5). -/
def byteFieldKinds : List Byte :=
  [0x01, 0x02, 0x03, 0x04, 0x11, 0x13, 0x16, 0x21, 0x22, 0x23, 0x24, 0x30, 0x31, 0x50, 0x51, 0x52, 0x53, 0x60, 0x61]

/-- The kinds whose body holds wider fields, each at a fixed place (12.5). -/
def wideFieldKinds : List Byte := [0x05, 0x06, 0x07, 0x17, 0x40, 0x42]

/-- The kinds of short bodies whose option, action or part byte tells the row (12.5). -/
def optionKinds : List Byte := [0x12, 0x14, 0x15, 0x32]

theorem readBack_of_byteFields (known : kind ∈ byteFieldKinds) : ReadBack ⟨ft, kind, body⟩ := by
  intro i read
  simp only [byteFieldKinds, List.mem_cons, List.not_mem_nil, or_false] at known
  rcases known with rfl | rfl | rfl | rfl | rfl | rfl | rfl | rfl | rfl | rfl | rfl | rfl | rfl | rfl | rfl | rfl | rfl |
    rfl | rfl
  all_goals
    simp only [decodeRequest, BitVec.reduceEq, reduceIte] at read
    split at read
    · cases read
      exact ⟨rfl, rfl⟩
    · cases read

theorem readBack_of_wideFields (known : kind ∈ wideFieldKinds) : ReadBack ⟨ft, kind, body⟩ := by
  intro i read
  simp only [wideFieldKinds, List.mem_cons, List.not_mem_nil, or_false] at known
  rcases known with rfl | rfl | rfl | rfl | rfl | rfl
  all_goals
    simp only [decodeRequest, BitVec.reduceEq, reduceIte] at read
    split at read
    · cases read
      simp [encodeRequest, pairBytes, Instr.wellFormed]
    · cases read

/-- A byte outside its list is the first row's (log 11). -/
theorem readBack_of_optionByte (known : kind ∈ optionKinds) : ReadBack ⟨ft, kind, body⟩ := by
  intro i read
  simp only [optionKinds, List.mem_cons, List.not_mem_nil, or_false] at known
  rcases known with rfl | rfl | rfl | rfl
  all_goals
    simp only [decodeRequest, BitVec.reduceEq, reduceIte, decodeNightGet, decodeHoldZone, decodeClearZone,
      decodeGateChannel] at read
    split at read
    · cases read
      split_ifs <;> simp_all [encodeRequest, Instr.wellFormed]
    · cases read

/-- SET-ZONE, with a zone's settings after the option byte (R183). -/
theorem readBack_setZone : ReadBack ⟨ft, 0x10, body⟩ := by
  intro i read
  simp only [decodeRequest, BitVec.reduceEq, reduceIte] at read
  split at read
  next zone option rest =>
    obtain ⟨x, settings, rfl⟩ := Option.map_eq_some_iff.mp read
    obtain rfl := decodeSettings_eq_some_iff.mp settings
    unfold decodeSetZone
    split <;> simp_all [encodeRequest, Instr.wellFormed]
  next => cases read

/-- STAGE-METER, with a meter entry after the slot (R183). -/
theorem readBack_stageMeter : ReadBack ⟨ft, 0x20, body⟩ := by
  intro i read
  simp only [decodeRequest, BitVec.reduceEq, reduceIte] at read
  split at read
  next slot rest =>
    obtain ⟨b, binding, rfl⟩ := Option.map_eq_some_iff.mp read
    obtain rfl := decodeBinding_eq_some_iff.mp binding
    exact ⟨rfl, rfl⟩
  next => cases read

/-- READING-BATCH: the count byte is the number of pairs, which the line's longest body bounds (R176, R183). -/
theorem readBack_readingBatch (fits : body.length ≤ maxBody) : ReadBack ⟨ft, 0x41, body⟩ := by
  intro i read
  simp only [decodeRequest, BitVec.reduceEq, reduceIte] at read
  unfold decodeBatch at read
  split at read
  next slot a b c d p rest =>
    split_ifs at read with size
    obtain ⟨ps, pairs, rfl⟩ := Option.map_eq_some_iff.mp read
    obtain rfl := pairBytes_of_decodePairs pairs
    rw [FrameLength.pairs_length] at size
    have count : ps.length = p.toNat := by omega
    have few : ps.length ≤ maxPairs := by
      simp only [List.length_cons, FrameLength.pairs_length, maxBody] at fits
      simp only [maxPairs]
      omega
    exact ⟨by simp [encodeRequest, count], decide_eq_true few⟩
  next => cases read

/-- SET-PRESSURE-TABLE, with 17 entries or as the query without any (R87, R183). -/
theorem readBack_setPressureTable : ReadBack ⟨ft, 0x43, body⟩ := by
  intro i read
  simp only [decodeRequest, BitVec.reduceEq, reduceIte] at read
  unfold decodeTable at read
  split_ifs at read with query size entries
  · cases read
    exact ⟨by rw [query]; rfl, rfl⟩
  · cases read
    have words := be16_decodeWords (bytes := body) (by rw [size]; decide)
    exact ⟨by simp [encodeRequest, Vector.toList, words], rfl⟩

theorem catalogue_subset : catalogue ⊆ byteFieldKinds ++ wideFieldKinds ++ optionKinds ++ [0x10, 0x20, 0x41, 0x43] := by
  decide

/-- Every frame that fits the line is the frame of the request it is read as (R176, R179). -/
theorem readBack_of_fits (ft kind : Byte) (fits : body.length ≤ maxBody) : ReadBack ⟨ft, kind, body⟩ := by
  cases known : catalogue.contains kind with
  | false => exact readBack_of_not_catalogue known fits
  | true =>
    have group := catalogue_subset (List.contains_iff_mem.mp known)
    simp only [List.mem_append, List.mem_cons, List.not_mem_nil, or_false, or_assoc] at group
    rcases group with bytes | wide | option | rfl | rfl | rfl | rfl
    · exact readBack_of_byteFields bytes
    · exact readBack_of_wideFields wide
    · exact readBack_of_optionByte option
    · exact readBack_setZone
    · exact readBack_stageMeter
    · exact readBack_readingBatch fits
    · exact readBack_setPressureTable

/-! ### Frames of well-formed requests -/

theorem decodeRequest_setZoneFrame (ft zone option : Byte) (x : ZoneSettings) :
    decodeRequest ⟨ft, 0x10, zone :: option :: settingsBytes x⟩ = some (decodeSetZone ft zone option x) :=
  congrArg (Option.map (decodeSetZone ft zone option)) (decodeSettings_eq_some_iff.mpr rfl)

theorem decodeRequest_stageMeterFrame (ft slot : Byte) (b : MeterBinding) :
    decodeRequest ⟨ft, 0x20, slot :: bindingBytes b⟩ = some (.stageMeter ft slot b) :=
  congrArg (Option.map (Instr.stageMeter ft slot)) (decodeBinding_eq_some_iff.mpr rfl)

theorem decodeRequest_readingBatchFrame (ft slot : Byte) (tag : W32) {ps : List Pair} (few : ps.length ≤ maxPairs) :
    decodeRequest ⟨ft, 0x41, slot :: be32 tag ++ [BitVec.ofNat 8 ps.length] ++ (ps.map pairBytes).flatten⟩ =
      some (.readingBatch ft slot tag ps) := by
  have count : (BitVec.ofNat 8 ps.length).toNat = ps.length := by
    simp only [maxPairs] at few
    simp only [BitVec.toNat_ofNat]
    omega
  have size : (ps.map pairBytes).flatten.length = 8 * (BitVec.ofNat 8 ps.length).toNat := by
    rw [FrameLength.pairs_length, count]
  refine (if_pos size).trans ?_
  rw [word32_of_be32]
  exact congrArg (Option.map (Instr.readingBatch ft slot tag)) (decodePairs_pairBytes ps)

theorem decodeRequest_pressureTableFrame (ft : Byte) (entries : Vector W16 17) :
    decodeRequest ⟨ft, 0x43, (entries.toList.map be16).flatten⟩ = some (.setPressureTable ft entries) := by
  have size : (entries.toList.map be16).flatten.length = 34 := by
    rw [FrameLength.words_length, Vector.length_toList]
  have nonempty : (entries.toList.map be16).flatten ≠ [] := fun empty => by simp [empty] at size
  refine (if_neg nonempty).trans ((if_pos size).trans ?_)
  simp only [decodeWords_be16]
  exact dif_pos entries.length_toList

/-- A well-formed request is read back from its frame with every operand. -/
theorem decodeRequest_encodeRequest {i : Instr} {f : Frame} (formed : i.wellFormed = true)
    (hf : encodeRequest i = some f) : decodeRequest f = some i := by
  cases i with
  | secondTick | standstillEnd | pinChange | statusLevelChange | byteReceived | frameGapTimeout | replySent | powerOn
  | pinReset | leavingPhaseEnd | restartClear | readingPair | captureRecord | resumeRecord | intakeItemEnd
  | analyserTakeZone | nightAnalysisEnd | checkPassVerify | resetPinLow => cases hf
  | statusGet | enterSetup | leaveSetup | restart | zoneGet | historyGet | baselineGet | commitStage | discardStage
  | meterGet | meterRelease | setChannel | channelGet | pressureTableQuery | findingsTake | attnGet | attnClear
  | attnEnable | entryRaw | checkPass | nightGetVolumes | nightGetPressure | holdZoneRelease | clearZoneRebase
  | clearZoneKeep | gateChannelRelease =>
    cases hf
    rfl
  | setClock | setGrid | timeMark | baselinePut | reading | pressure =>
    cases hf
    simp [decodeRequest, pairBytes, be32, be16]
  | nightGetSummary | holdZoneSet | clearZoneRelearn | gateChannelSet =>
    cases hf
    simp_all [decodeRequest, Instr.wellFormed, decodeNightGet, decodeHoldZone, decodeClearZone, decodeGateChannel]
  | setZone ft zone option x =>
    cases hf
    have plain : option ≠ 1 := by simpa [Instr.wellFormed] using formed
    rw [decodeRequest_setZoneFrame, decodeSetZone, if_neg plain]
  | setZoneUnconfigure ft zone x =>
    cases hf
    exact decodeRequest_setZoneFrame ft zone 1 x
  | stageMeter ft slot b =>
    cases hf
    exact decodeRequest_stageMeterFrame ft slot b
  | readingBatch ft slot tag ps =>
    cases hf
    exact decodeRequest_readingBatchFrame ft slot tag (of_decide_eq_true formed)
  | setPressureTable ft entries =>
    cases hf
    exact decodeRequest_pressureTableFrame ft entries
  | unknownKind ft kind body =>
    cases hf
    have unknown : (!catalogue.contains kind) = true := (Bool.and_eq_true_iff.mp formed).1
    exact decodeRequest_of_not_catalogue ((Bool.not_eq_true' _).mp unknown) ft body

/-- Settles O57: by the rows one way, by the kinds of the catalogue the other. -/
theorem decodeOfEncodeIsTheRequest : Obligations.DecodeOfEncodeIsTheRequest :=
  ⟨fun _ _ => decodeRequest_encodeRequest, fun i f fits => readBack_of_fits f.tag f.kind fits i⟩

end Sys2Proof.Proofs
